-- ==== Sys2Proof/Word.lean ====
section
/-! DEFINITION. The words of the block (spec/00_scope.md R10 to R13) and the two one-bit operand selectors of EXPAND
(spec/30_encoding.md R80, R82). -/

namespace Sys2Proof

/-- A 32-bit word, the block's one data width (00_scope.md R11 `WORD`); all values are unsigned (R12). -/
abbrev Word := BitVec 32

/-- One byte of a key, salt or digest byte string (00_scope.md R15). -/
abbrev Byte := BitVec 8

/-- `KSRC` (30_encoding.md R82): where the key byte string of an expansion comes from. -/
inductive KeySrc where
  | keyBuffer   -- KSRC = 0, written K
  | saltBuffer  -- KSRC = 1, written S
deriving DecidableEq, Repr

/-- `SSRC` (30_encoding.md R82): where the salt byte string of an expansion comes from. -/
inductive SaltSrc where
  | saltBuffer  -- SSRC = 0, written S
  | zero        -- SSRC = 1, written Z: the empty string, all-zero material
deriving DecidableEq, Repr

end Sys2Proof
end

