-- ==== Sys2Proof/Syntax.lean ====
section
/-! DEFINITION. The commands of the block, one constructor per row of spec/opcode_table.json (spec/30_encoding.md R83). -/

namespace Sys2Proof

/-- A command (30_encoding.md R83). Every operand that is not a field of the command word is implicit (R81). -/
inductive Instr where
  /-- no operation; completes at once and clears ERR (60_exceptions.md R207) -/
  | nop
  /-- load the canonical tables (41_init_tables.md R120) -/
  | init
  /-- one key expansion (42_key_schedule.md R140), with the key and the salt source -/
  | expand (ksrc : KeySrc) (ssrc : SaltSrc)
  /-- the expensive key setup (42_key_schedule.md R145), with its 5-bit `COST` field -/
  | eks (cost : BitVec 5)
  /-- encrypt `(DATA_L, DATA_R)` in place (40_cipher.md R103) -/
  | encrypt
  /-- derive the bcrypt digest (43_digest.md R170) -/
  | digest
deriving DecidableEq, Repr

end Sys2Proof
end

