-- ==== Sys2Proof/Machine/State.lean ====
section
/-! DEFINITION. The state of the block (spec/10_state.md R20 to R42) and, beside it, the model's own fields for the two agents
of R20: what the host will still do, who moves next, what the host has read, and how many free values have been drawn. -/

namespace Sys2Proof.Machine

/-- The mutable key-schedule state (10_state.md R21, R22): 18 subkeys and four S-boxes of 256 words. -/
structure Tables where
  /-- `P[0..17]` (R21) -/
  p : Vector Word 18
  /-- `S[0..3][0..255]` (R22) -/
  s : Vector (Vector Word 256) 4
deriving DecidableEq, Repr

/-- A 64-bit block `(L, R)` (00_scope.md R16): L is the left, more significant half. -/
structure Block where
  l : Word
  r : Word
deriving DecidableEq, Repr

/-- The error codes ever produced (60_exceptions.md R201): 5 to 15 are reserved and never produced. -/
inductive ErrCode where
  | noError
  | illegalCommand
  | tablesNotValid
  | invalidCost
  | invalidSaltLength
deriving DecidableEq, Repr

/-- The stored fields of `STATUS` (10_state.md R32); its reserved bits read as 0 and have no storage. -/
structure Status where
  /-- bit 0 (R33) -/
  busy : Bool
  /-- bit 1 (R34) -/
  done : Bool
  /-- bit 2 (R36) -/
  err : Bool
  /-- bit 3, sticky (R37) -/
  overrun : Bool
  /-- bit 4, tables valid (R35) -/
  tv : Bool
  /-- bits 11:8 (R36) -/
  errCode : ErrCode
deriving DecidableEq, Repr

/-- `op` (10_state.md R38): the command in progress. NOP is never in progress (R33). -/
inductive EngineOp where
  | init
  | expand
  | eks
  | encrypt
  | digest
deriving DecidableEq, Repr

/-- The EKS stages (42_key_schedule.md R151). -/
inductive EksStage where
  | s1
  | s2
  | s3a
  | s3b
deriving DecidableEq, Repr

/-- The expansion position `xphase` with its `xi` (10_state.md R38): the P index in KEYXOR, the block index in ENCRYPT. -/
inductive XPhase where
  | keyXor (xi : Fin 18)
  | encrypt (xi : Fin 521)
deriving DecidableEq, Repr

/-- The hidden state of the sequencer (10_state.md R38). -/
structure Sequencer where
  op : EngineOp
  cost : BitVec 5
  stage : EksStage
  /-- EKS repetitions done (42_key_schedule.md R154) -/
  iter : BitVec 32
  phase : XPhase
  /-- key stream offset -/
  ko : Nat
  /-- salt stream offset -/
  so : Nat
  /-- the running block `(xL, xR)` -/
  block : Block
  /-- key source of the expansion in progress -/
  ksrc : KeySrc
  /-- salt source of the expansion in progress -/
  ssrc : SaltSrc
  /-- DIGEST pass -/
  dpass : Fin 64
  /-- DIGEST block -/
  dblk : Fin 3
  /-- DIGEST working buffer `dw[0..5]` -/
  dw : Vector Word 6
deriving DecidableEq, Repr

/-- The width of a host access: only 32 bits has a meaning (20_memory.md R59). -/
inductive Width where
  | w8
  | w16
  | w32
  | w64
deriving DecidableEq, Repr

/-- A statement of a host program (30_encoding.md R87, R88): offsets are byte offsets from `ENGINE_BASE` (20_memory.md R51).
The value of a write of another width than 32 bits is irrelevant, since that access is refused. -/
inductive HostStmt where
  /-- `MemWrite(off, width, v)` -/
  | wr (off : Nat) (width : Width) (v : Word)
  /-- `MemRead(off, width)` -/
  | rd (off : Nat) (width : Width)
  /-- `WAIT`: read STATUS until BUSY is 0 -/
  | wait
deriving DecidableEq, Repr

/-- Which agent moves (10_state.md R20), or the external reset event (70_reset_and_hazards.md R240). Log 1. -/
inductive Turn where
  | host
  | engine
  | reset
deriving DecidableEq, Repr

/-- The whole state: the block (every field down to `seq`) and the model's own fields. -/
structure State where
  /-- P and S (R21, R22) -/
  tables : Tables
  /-- `DATA_L` (R25) -/
  dataL : Word
  /-- `DATA_R` (R25) -/
  dataR : Word
  /-- `KEY[0..17]` (R26) -/
  key : Vector Word 18
  /-- `KEYLEN[6:0]` (R27) -/
  keyLen : BitVec 7
  /-- `SALT[0..3]` (R28) -/
  salt : Vector Word 4
  /-- `SALTLEN[4:0]` (R29) -/
  saltLen : BitVec 5
  /-- `DIGEST[0..5]` (R30) -/
  digest : Vector Word 6
  /-- `CMD` (R31) -/
  cmd : Word
  /-- `STATUS` (R32) -/
  status : Status
  /-- the sequencer (R38) -/
  seq : Sequencer
  /-- the model's own: what the host will still do (log 5) -/
  program : List HostStmt
  /-- the model's own: who moves next (log 1) -/
  turns : List Turn
  /-- the model's own: the words the host's reads returned, newest first (log 5) -/
  received : List Word
  /-- the model's own: how many free values have been drawn (log 4) -/
  draws : Nat
deriving DecidableEq, Repr

/-- Nothing stops the block: it has no trap, and every error is a completion status (60_exceptions.md R205, R213). So this
closed inductive has NO constructor: no meaning and no step raises a fault, which is safe and unsafe of nothing. -/
inductive Fault
deriving DecidableEq, Repr

/-- Why a step is not given a meaning. -/
inductive Refusal where
  /-- Raised by an arm of `exec` whose instruction has no meaning yet; no arm is left that raises it. Safe. -/
  | notModelled (mnemonic : String)
  /-- Raised by the host's step on an access of 8, 16 or 64 bits: the spec refuses it, the host is stuck (20_memory.md R59).
  Safe: nothing can be proved of what follows. -/
  | accessWidth
  /-- Raised by the host's step on an offset that is no multiple of 4 (20_memory.md R59). Safe. -/
  | accessMisaligned
  /-- Raised by the host's step on an offset above 0x3FFC (20_memory.md R59). Safe. -/
  | accessOutsideWindow
deriving DecidableEq, Repr

/-- STATUS = 0 (10_state.md R42). -/
def Status.reset : Status :=
  { busy := false, done := false, err := false, overrun := false, tv := false, errCode := .noError }

/-- P and S after reset: the spec gives no value; the model names 0 in every word (log 2, DESIGN CHOICE, UNSAFE). -/
def Tables.reset : Tables :=
  { p := Vector.replicate 18 0, s := Vector.replicate 4 (Vector.replicate 256 0) }

/-- The idle sequencer after reset: the spec leaves its fields unspecified; the model names them (log 3, DESIGN CHOICE, UNSAFE). -/
def Sequencer.reset : Sequencer :=
  { op := .init, cost := 0, stage := .s1, iter := 0, phase := .keyXor 0, ko := 0, so := 0, block := ⟨0, 0⟩,
    ksrc := .keyBuffer, ssrc := .saltBuffer, dpass := 0, dblk := 0, dw := Vector.replicate 6 0 }

/-- The machine right after reset (10_state.md R42): every host register 0, STATUS 0, the sequencer idle. The host has no
program placed and no turn is scheduled (logs 1, 5). -/
def State.reset : State :=
  { tables := Tables.reset, dataL := 0, dataR := 0, key := Vector.replicate 18 0, keyLen := 0,
    salt := Vector.replicate 4 0, saltLen := 0, digest := Vector.replicate 6 0, cmd := 0,
    status := Status.reset, seq := Sequencer.reset,
    program := [], turns := [], received := [], draws := 0 }

end Sys2Proof.Machine
end

