-- ==== Sys2Proof/Machine/Cipher.lean ====
section
/-! DEFINITION. The Blowfish cipher on the current tables (spec/40_cipher.md R100 to R102). -/

namespace Sys2Proof.Machine

/-- `S[k][j]` with `j` a byte field of a word (40_cipher.md R100, R105). -/
def sboxAt (t : Tables) (k : Fin 4) (j : Byte) : Word := t.s[k][j.toNat]'j.isLt

/-- `F(x) = ((S[0][a] + S[1][b]) ^ S[2][c]) + S[3][d]` (40_cipher.md R100), `a` the most significant byte of `x`. -/
def feistel (t : Tables) (x : Word) : Word :=
  ((sboxAt t 0 (x.extractLsb' 24 8) + sboxAt t 1 (x.extractLsb' 16 8)) ^^^ sboxAt t 2 (x.extractLsb' 8 8)) +
    sboxAt t 3 (x.extractLsb' 0 8)

/-- `Round(i, L, R)` (40_cipher.md R101): the swapped pair. -/
def feistelRound (t : Tables) (b : Block) (i : Fin 16) : Block :=
  let l := b.l ^^^ t.p[i.val]'(by omega)
  let r := b.r ^^^ feistel t l
  ⟨r, l⟩

/-- `Enc(L, R)` (40_cipher.md R102): 16 rounds, the last swap undone, the two final subkey XORs. -/
def encryptBlock (t : Tables) (b : Block) : Block :=
  let x := (List.finRange 16).foldl (feistelRound t) b
  let y : Block := ⟨x.r, x.l⟩
  ⟨y.l ^^^ t.p[17], y.r ^^^ t.p[16]⟩

end Sys2Proof.Machine
end

