-- ==== Sys2Proof/Machine/DigestFn.lean ====
section
/-! DEFINITION. The bcrypt digest derivation as a function of the tables (spec/43_digest.md R170; spec/10_state.md R24). -/

namespace Sys2Proof.Machine

/-- `CTEXT[0..5]`, "OrpheanBeholderScryDoubt" packed big-endian (10_state.md R24). -/
def ctext : Vector Word 6 := #v[0x4F727068, 0x65616E42, 0x65686F6C, 0x64657253, 0x63727944, 0x6F756274]

/-- One block encryption of the working buffer (43_digest.md R170): block `b` is `(dw[2b], dw[2b+1])`. -/
def digestBlock (t : Tables) (dw : Vector Word 6) (b : Fin 3) : Vector Word 6 :=
  let r := encryptBlock t ⟨dw[2 * b.val], dw[2 * b.val + 1]⟩
  (dw.set (2 * b.val) r.l).set (2 * b.val + 1) r.r

/-- One pass over the three blocks (43_digest.md R170). -/
def digestPass (t : Tables) (dw : Vector Word 6) : Vector Word 6 := (List.finRange 3).foldl (digestBlock t) dw

/-- The working buffer after the 64 passes (43_digest.md R170). -/
def digestBuffer (t : Tables) : Vector Word 6 := (digestPass t)^[64] ctext

/-- What is written to `DIGEST[0..5]`: the 24th byte is discarded (43_digest.md R170). -/
def digestResult (dw : Vector Word 6) : Vector Word 6 := dw.set 5 (dw[5] &&& 0xFFFFFF00)

end Sys2Proof.Machine
end

