-- ==== Sys2Proof/Config.lean ====
section
/-! DEFINITION. What the platform fixes and what the spec leaves free (spec/92_eei_decisions.md, Open parameters;
spec/93_implementation_defined.md U1, U2, U12). None of the opaque constants has a body: nothing can be proved of their values. -/

namespace Sys2Proof

/-- The free value of `draw()` (20_memory.md R54, R55; 70_reset_and_hazards.md R251): the word of the n-th draw, "under no
law". `State.draws` counts the draws, so two draws are two arguments. Log 4. -/
opaque Config.draw : Nat → Word

/-- Which 16 KiB block of the host's address space the window sits in (log 8). -/
opaque Config.engineBlock : Nat

/-- `ENGINE_BASE` (20_memory.md R51): an OPEN parameter, a multiple of 0x4000. -/
def Config.engineBase : Nat := 0x4000 * Config.engineBlock

end Sys2Proof
end

