-- ==== Sys2Proof/WellFormed.lean ====
section
/-! DEFINITION. Which command words and which commands are well formed (spec/30_encoding.md R80, R85).

The types of `Instr`'s fields admit exactly the values the encoding's fields hold (a 5-bit cost, two one-bit selectors), so an
ill-formed command cannot be built: every `Instr` is well formed. What can be ill-formed is a command WORD: the checks are
those of R80's format table, one definition each. -/

namespace Sys2Proof

/-- R85: an `OP` of 0x6 to 0xF is illegal. -/
def opDefined (w : Word) : Bool := decide ((w.extractLsb' 0 4).toNat ≤ 5)

/-- R80: bits 7:4, 15:13 and 31:18 must be 0. -/
def reservedZero (w : Word) : Bool :=
  w.extractLsb' 4 4 == 0 && w.extractLsb' 13 3 == 0 && w.extractLsb' 18 14 == 0

/-- R80: `COST` must be 0 for every OP but EKS. -/
def costFieldUsed (w : Word) : Bool := w.extractLsb' 0 4 == 3 || w.extractLsb' 8 5 == 0

/-- R80: `KSRC` and `SSRC` must be 0 for every OP but EXPAND. -/
def sourceFieldsUsed (w : Word) : Bool := w.extractLsb' 0 4 == 2 || w.extractLsb' 16 2 == 0

/-- A command word that R80's format table allows: none of R85's grounds for ILLEGAL holds of it. -/
def legalWord (w : Word) : Bool := opDefined w && reservedZero w && costFieldUsed w && sourceFieldsUsed w

/-- Every command is well formed: its fields hold no value the encoding lacks. An EKS with cost 0 to 3 is a legal encoding
whose execution fails its operand check (R85). -/
def Instr.wellFormed : Instr → Bool
  | .nop => true
  | .init => true
  | .expand _ _ => true
  | .eks _ => true
  | .encrypt => true
  | .digest => true

end Sys2Proof
end

