-- ==== Sys2Proof/Decode.lean ====
section
/-! DEFINITION. The decoder and the encoder of command words (spec/30_encoding.md R80 to R86, R89). -/

namespace Sys2Proof

/-- What `Decode` answers (30_encoding.md R84): a command, or ILLEGAL by name. -/
inductive Decoded where
  | command (i : Instr)
  | illegal
deriving DecidableEq, Repr

/-- `KSRC = w[16]` (30_encoding.md R81, R82). -/
def keySrcOfBit (b : Bool) : KeySrc := if b then .saltBuffer else .keyBuffer

/-- `SSRC = w[17]` (30_encoding.md R81, R82). -/
def saltSrcOfBit (b : Bool) : SaltSrc := if b then .zero else .saltBuffer

/-- `Decode` (30_encoding.md R84), total on every 32-bit word. -/
def decode (w : Word) : Decoded :=
  if w = 0x00000000 then .command .nop
  else if w = 0x00000001 then .command .init
  else if w &&& 0xFFFCFFFF = 0x00000002 then
    .command (.expand (keySrcOfBit (w.getLsbD 16)) (saltSrcOfBit (w.getLsbD 17)))
  else if w &&& 0xFFFFE0FF = 0x00000003 then .command (.eks (w.extractLsb' 8 5))
  else if w = 0x00000004 then .command .encrypt
  else if w = 0x00000005 then .command .digest
  else .illegal

/-- The command an opcode-table word of `nbits` bits decodes to. A command has one length, 32 bits (R80), so the word's bits
above `nbits` are 0 and a row longer than 32 bits is no command. -/
def decodeTableWord (nbits w : Nat) : Option Instr :=
  if nbits ≤ 32 then
    match decode (BitVec.ofNat 32 (w % 2 ^ nbits)) with
    | .command i => some i
    | .illegal => none
  else none

/-- The `KSRC` bit of a source, as a word (30_encoding.md R89). -/
def keySrcWord : KeySrc → Word
  | .keyBuffer => 0
  | .saltBuffer => 1

/-- The `SSRC` bit of a source, as a word (30_encoding.md R89). -/
def saltSrcWord : SaltSrc → Word
  | .saltBuffer => 0
  | .zero => 1

/-- `Encode` (30_encoding.md R89). -/
def encode : Instr → Word
  | .nop => 0x0
  | .init => 0x1
  | .expand k s => 0x2 ||| (keySrcWord k <<< 16) ||| (saltSrcWord s <<< 17)
  | .eks c => 0x3 ||| (c.setWidth 32 <<< 8)
  | .encrypt => 0x4
  | .digest => 0x5

end Sys2Proof
end

