-- ==== Sys2Proof/Machine/Flags.lean ====
section
/-! DEFINITION. The STATUS register as a word and the acceptance checks of a command (spec/10_state.md R32;
spec/60_exceptions.md R201, R210). -/

namespace Sys2Proof.Machine

/-- The number of an error code (60_exceptions.md R201). -/
def errNumber : ErrCode → BitVec 4
  | .noError => 0
  | .illegalCommand => 1
  | .tablesNotValid => 2
  | .invalidCost => 3
  | .invalidSaltLength => 4

/-- `STATUS` as the host reads it (10_state.md R32): bits 31:12 and 7:5 are reserved and read as 0. -/
def statusWord (st : Status) : Word :=
  (0#20 ++ errNumber st.errCode ++ 0#3 ++ BitVec.ofBool st.tv ++ BitVec.ofBool st.overrun ++ BitVec.ofBool st.err ++
    BitVec.ofBool st.done ++ BitVec.ofBool st.busy : BitVec 32)

/-- A command that computes from P and S, so needs STATUS.TV = 1 (60_exceptions.md R202). -/
def needsTables : Instr → Bool
  | .nop => false
  | .init => false
  | .expand _ _ => true
  | .eks _ => false
  | .encrypt => true
  | .digest => true

/-- EXPAND reads the salt buffer, as key or as salt (60_exceptions.md R203). -/
def readsSaltBuffer (k : KeySrc) (z : SaltSrc) : Bool := decide (k = .saltBuffer) || decide (z = .saltBuffer)

/-- The salt length a command cannot use (60_exceptions.md R203): not 16 for EKS, above 16 for EXPAND of the salt buffer. -/
def saltLengthWrong (i : Instr) (saltLen : BitVec 5) : Bool :=
  match i with
  | .nop => false
  | .init => false
  | .expand k z => readsSaltBuffer k z && decide (16 < saltLen.toNat)
  | .eks _ => decide (saltLen ≠ 16)
  | .encrypt => false
  | .digest => false

/-- The cost is outside the range EKS takes (60_exceptions.md R209): only the lower bound can fail. -/
def costWrong : Instr → Bool
  | .nop => false
  | .init => false
  | .expand _ _ => false
  | .eks c => decide (c.toNat < 4)
  | .encrypt => false
  | .digest => false

/-- `Check` of a decoded command (60_exceptions.md R210): the code of the first check that fails, in the order of R210. The
ILLEGAL case of R210 is `rejectIllegal`'s. -/
def check (i : Instr) (s : State) : ErrCode :=
  if needsTables i && !s.status.tv then .tablesNotValid
  else if costWrong i then .invalidCost
  else if saltLengthWrong i s.saltLen then .invalidSaltLength
  else .noError

end Sys2Proof.Machine
end

