-- ==== Sys2Proof/Machine/Ops.lean ====
section
/-! DEFINITION. The named operations on the state: accepting a command word, ending it with an error or normally, dropping a
host write, drawing a free value, reset (spec/60_exceptions.md R200, R205, R206; spec/70_reset_and_hazards.md R240, R250, R251).

The block has no trap (R213): `failCommand` is the ONE entry every error takes, and there is no return from it (R214): the next
accepted command clears what it recorded. -/

namespace Sys2Proof.Machine

/-- Acceptance (60_exceptions.md R200): `CMD <- w`, and DONE, ERR, ERRCODE are cleared. -/
def acceptWord (w : Word) (s : State) : State :=
  { s with cmd := w, status := { s.status with done := false, err := false, errCode := .noError } }

/-- `Fail(code)` (60_exceptions.md R205): ERR, ERRCODE and DONE record the error, and nothing else changes. -/
def failCommand (code : ErrCode) (s : State) : State :=
  { s with status := { s.status with err := true, errCode := code, done := true } }

/-- `Complete()` (60_exceptions.md R206): BUSY <- 0, DONE <- 1, ERR <- 0, ERRCODE <- 0; TV <- 1 when `setsTv`, that is, for
INIT and EKS (10_state.md R35). Log 11. -/
def completeCommand (setsTv : Bool) (s : State) : State :=
  { s with status := { s.status with busy := false, done := true, err := false, errCode := .noError,
                                     tv := setsTv || s.status.tv } }

/-- `STATUS.BUSY <- 1`, after the sequencer is initialised (60_exceptions.md R200, R204). -/
def setBusy (s : State) : State := { s with status := { s.status with busy := true } }

/-- A host write dropped because BUSY = 1 (70_reset_and_hazards.md R250): only OVERRUN changes. -/
def dropWrite (s : State) : State := { s with status := { s.status with overrun := true } }

/-- `draw()` (20_memory.md R55): a free word, a new one for each draw. Log 4. -/
def drawWord (s : State) : Word × State := (Config.draw s.draws, { s with draws := s.draws + 1 })

/-- The reset event (70_reset_and_hazards.md R240): every piece of the block's state at its reset value, a command in progress
abandoned. The host agent and the environment are outside the block: their fields stay (log 9). -/
def resetBlock (s : State) : State :=
  { State.reset with program := s.program, turns := s.turns, received := s.received, draws := s.draws }

/-- An accepted illegal word (60_exceptions.md R200, R208): ILLEGAL_COMMAND, and no command is performed. -/
def rejectIllegal (w : Word) (s : State) : State := failCommand .illegalCommand (acceptWord w s)

/-- `AcceptCommand` of a legal command (60_exceptions.md R200): dropped while BUSY = 1 (R250), ended at once with the error of
the first check that fails (R205, R210), else `start`ed. Log 6. -/
def issueCommand (i : Instr) (start : State → State) (s : State) : Host.Outcome State Fault Refusal :=
  if s.status.busy then .next (dropWrite s)
  else
    match check i s with
    | .noError => .next (start (acceptWord (encode i) s))
    | code => .next (failCommand code (acceptWord (encode i) s))

end Sys2Proof.Machine
end

