-- ==== Sys2Proof/Machine/Operands.lean ====
section
/-! DEFINITION. The implicit operands of the commands: byte strings, the key and salt sources, and the cyclic stream
(spec/00_scope.md R12, R15; spec/10_state.md R26 to R29; spec/30_encoding.md R82; spec/42_key_schedule.md R131). -/

namespace Sys2Proof.Machine

/-- `byte_k(w) = w[31-8k : 24-8k]` (00_scope.md R12): `byte_0` is the most significant byte. -/
def byteOf (k : Nat) (w : Word) : Byte := w.extractLsb' (24 - 8 * k) 8

/-- The four bytes of a word, big-endian (20_memory.md R57). -/
def wordBytes (w : Word) : List Byte := [byteOf 0 w, byteOf 1 w, byteOf 2 w, byteOf 3 w]

/-- `kb[0..71]`: byte `4i + k` is `byte_k(KEY[i])` (10_state.md R26). -/
def keyBufferBytes (s : State) : List Byte := s.key.toList.flatMap wordBytes

/-- `sb[0..15]`: byte `4i + k` is `byte_k(SALT[i])` (10_state.md R28). -/
def saltBufferBytes (s : State) : List Byte := s.salt.toList.flatMap wordBytes

/-- `KEYBYTES() = kb[0 .. n-1]` with `n = min(KEYLEN[6:0], 72)` (10_state.md R27). -/
def keyBytes (s : State) : List Byte := (keyBufferBytes s).take (min s.keyLen.toNat 72)

/-- `SALTBYTES() = sb[0 .. SALTLEN-1]` (10_state.md R29). No command uses it with a SALTLEN above 16 (60_exceptions.md R203). -/
def saltBytes (s : State) : List Byte := (saltBufferBytes s).take s.saltLen.toNat

/-- The key byte string of an expansion (30_encoding.md R82). -/
def keyOperand (k : KeySrc) (s : State) : List Byte :=
  match k with
  | .keyBuffer => keyBytes s
  | .saltBuffer => saltBytes s

/-- The salt byte string of an expansion (30_encoding.md R82): the empty string for the zero salt. -/
def saltOperand (z : SaltSrc) (s : State) : List Byte :=
  match z with
  | .saltBuffer => saltBytes s
  | .zero => []

/-- One byte of the cyclic stream of `b` (42_key_schedule.md R131): 0x00 of an empty string, else `b[off mod len(b)]`. -/
def streamByte (b : List Byte) (off : Nat) : Byte :=
  if h : b.length = 0 then 0x00 else b[off % b.length]'(Nat.mod_lt _ (Nat.pos_of_ne_zero h))

/-- `StreamWord(b, off)` (42_key_schedule.md R131): four bytes, big-endian, and the offset after them. -/
def streamWord (b : List Byte) (off : Nat) : Word × Nat :=
  ([0, 1, 2, 3].foldl (fun w t => (w <<< 8) ||| (streamByte b (off + t)).setWidth 32) 0, off + 4)

end Sys2Proof.Machine
end

