-- ==== Sys2Proof/Machine/Schedule.lean ====
section
/-! DEFINITION. The key expansion and the EksBlowfish setup as functions of the tables (spec/42_key_schedule.md R130 to R138,
R145). The sequencer runs the same units one engine step at a time. -/

namespace Sys2Proof.Machine

/-- `P[i] <- P[i] ^ w`, one word of the key phase (42_key_schedule.md R134). -/
def xorSubkey (i : Fin 18) (w : Word) (t : Tables) : Tables := { t with p := t.p.set i (t.p[i] ^^^ w) }

/-- The key phase (42_key_schedule.md R134): 18 key-stream words from offset 0, word `i` at offset `4i` (R132). -/
def keyPhase (key : List Byte) (t : Tables) : Tables :=
  (List.finRange 18).foldl (fun t i => xorSubkey i (streamWord key (4 * i.val)).1 t) t

/-- `Store(t, a, b)` (42_key_schedule.md R136): pair `n` of the 521 rewritten pairs, 9 of P and then 512 of S. -/
def storePair (n : Fin 521) (b : Block) (t : Tables) : Tables :=
  if h : n.val < 9 then
    { t with p := (t.p.set (2 * n.val) b.l).set (2 * n.val + 1) b.r }
  else
    let u := 2 * (n.val - 9)
    let row := t.s[u / 256]'(by omega)
    { t with s := t.s.set (u / 256) ((row.set (u % 256) b.l).set (u % 256 + 1) b.r (by omega)) (by omega) }

/-- The tables, the running block and the salt offset of an encryption phase. -/
structure Running where
  tables : Tables
  block : Block
  so : Nat
deriving DecidableEq, Repr

/-- One encryption of the encryption phase (42_key_schedule.md R136, R137): two salt words into the running block, `Enc`
under the tables as they stand, `Store`. -/
def encryptPair (salt : List Byte) (r : Running) (n : Fin 521) : Running :=
  let (w0, so1) := streamWord salt r.so
  let (w1, so2) := streamWord salt so1
  let b := encryptBlock r.tables ⟨r.block.l ^^^ w0, r.block.r ^^^ w1⟩
  ⟨storePair n b r.tables, b, so2⟩

/-- The encryption phase (42_key_schedule.md R136), from the all-zero block and salt offset 0. -/
def encryptPhase (salt : List Byte) (t : Tables) : Running :=
  (List.finRange 521).foldl (encryptPair salt) ⟨t, ⟨0, 0⟩, 0⟩

/-- `Expand(key, salt)` (42_key_schedule.md R138). -/
def expandTables (key salt : List Byte) (t : Tables) : Tables := (encryptPhase salt (keyPhase key t)).tables

/-- One repetition of EKS stage 3 (42_key_schedule.md R145): `Expand(key, empty)`, then `Expand(salt, empty)`. -/
def eksRepetition (key salt : List Byte) (t : Tables) : Tables := expandTables salt [] (expandTables key [] t)

/-- The tables EKS leaves (42_key_schedule.md R145): they do not depend on the tables before it. -/
def eksTables (cost : BitVec 5) (key salt : List Byte) : Tables :=
  (eksRepetition key salt)^[2 ^ cost.toNat] (expandTables key salt initTables)

end Sys2Proof.Machine
end

