-- ==== Sys2Proof/Machine/Sequencer.lean ====
section
/-! DEFINITION. The sequencer: starting a command and the engine's steps (spec/42_key_schedule.md R150 to R154;
spec/10_state.md R38; spec/40_cipher.md R104; spec/43_digest.md R172). -/

namespace Sys2Proof.Machine

/-- `StartExpand(ks, ss)` (42_key_schedule.md R152). -/
def startExpansion (k : KeySrc) (z : SaltSrc) (q : Sequencer) : Sequencer :=
  { q with ksrc := k, ssrc := z, phase := .keyXor 0, ko := 0, so := 0, block := ⟨0, 0⟩ }

/-- StartSequencer for INIT (60_exceptions.md R200). -/
def startInit (s : State) : State := setBusy { s with seq := { s.seq with op := .init } }

/-- StartSequencer for EXPAND (42_key_schedule.md R152). -/
def startExpand (k : KeySrc) (z : SaltSrc) (s : State) : State :=
  setBusy { s with seq := startExpansion k z { s.seq with op := .expand } }

/-- StartSequencer for EKS (42_key_schedule.md R151): stage S1. -/
def startEks (cost : BitVec 5) (s : State) : State :=
  setBusy { s with seq := { s.seq with op := .eks, cost := cost, stage := .s1 } }

/-- StartSequencer for ENCRYPT (60_exceptions.md R200). -/
def startEncrypt (s : State) : State := setBusy { s with seq := { s.seq with op := .encrypt } }

/-- StartSequencer for DIGEST (43_digest.md R170): the working buffer holds the magic constant. -/
def startDigest (s : State) : State :=
  setBusy { s with seq := { s.seq with op := .digest, dpass := 0, dblk := 0, dw := ctext } }

/-- `xi <- xi + 1` in KEYXOR; at 18 the phase becomes ENCRYPT (42_key_schedule.md R152). -/
def nextKeyWord (i : Fin 18) : XPhase := if h : i.val + 1 < 18 then .keyXor ⟨i.val + 1, h⟩ else .encrypt 0

/-- `xi <- xi + 1` in ENCRYPT (42_key_schedule.md R152); after block 520 the expansion is done and its position is irrelevant
(log 3). -/
def nextPair (n : Fin 521) : XPhase := if h : n.val + 1 < 521 then .encrypt ⟨n.val + 1, h⟩ else .encrypt n

/-- `XStep()` in KEYXOR (42_key_schedule.md R152): one key-stream word into `P[xi]`. The word is read at the offset `ko` (log 14). -/
def keyXorStep (i : Fin 18) (s : State) : State :=
  let (w, ko) := streamWord (keyOperand s.seq.ksrc s) s.seq.ko
  { s with tables := xorSubkey i w s.tables, seq := { s.seq with ko := ko, phase := nextKeyWord i } }

/-- `XStep()` in ENCRYPT (42_key_schedule.md R152): two salt words, one `Enc`, one `Store`. -/
def encryptPairStep (n : Fin 521) (s : State) : State :=
  let r := encryptPair (saltOperand s.seq.ssrc s) ⟨s.tables, s.seq.block, s.seq.so⟩ n
  { s with tables := r.tables, seq := { s.seq with block := r.block, so := r.so, phase := nextPair n } }

/-- `XStep()` (42_key_schedule.md R152): one engine step of the expansion in progress. -/
def expansionStep (s : State) : State :=
  match s.seq.phase with
  | .keyXor i => keyXorStep i s
  | .encrypt n => encryptPairStep n s

/-- `XDone` (42_key_schedule.md R152): the XStep from this position is the expansion's last. -/
def lastPair (p : XPhase) : Bool :=
  match p with
  | .keyXor _ => false
  | .encrypt n => n.val + 1 == 521

/-- INIT's one engine step (41_init_tables.md R120; 42_key_schedule.md R150 a): the table copy and the completion. -/
def initStep (s : State) : State := completeCommand true { s with tables := initTables }

/-- ENCRYPT's one engine step (40_cipher.md R103, R104): `Enc` of DATA and the completion. -/
def encryptStep (s : State) : State :=
  let b := encryptBlock s.tables ⟨s.dataL, s.dataR⟩
  completeCommand false { s with dataL := b.l, dataR := b.r }

/-- An engine step of EXPAND (42_key_schedule.md R152): the last XStep also completes the command. -/
def expandStep (s : State) : State :=
  if lastPair s.seq.phase then completeCommand false (expansionStep s) else expansionStep s

/-- Leaving EKS stage S2 (42_key_schedule.md R151): S3A, `iter <- 0`, `StartExpand(K, Z)`. -/
def enterStage3 (s : State) : State :=
  { s with seq := startExpansion .keyBuffer .zero { s.seq with stage := .s3a, iter := 0 } }

/-- Leaving EKS stage S3A (42_key_schedule.md R151): S3B, `StartExpand(S, Z)`. -/
def enterStage3b (s : State) : State :=
  { s with seq := startExpansion .saltBuffer .zero { s.seq with stage := .s3b } }

/-- Leaving EKS stage S3B (42_key_schedule.md R151): one more repetition is done; at `N = 2^cost` the command completes, else
S3A again. -/
def endRepetition (s : State) : State :=
  let s1 := { s with seq := { s.seq with iter := s.seq.iter + 1 } }
  if s.seq.iter + 1 = BitVec.ofNat 32 (2 ^ s.seq.cost.toNat) then completeCommand true s1
  else { s1 with seq := startExpansion .keyBuffer .zero { s1.seq with stage := .s3a } }

/-- An engine step of EKS (42_key_schedule.md R151). -/
def eksStep (s : State) : State :=
  match s.seq.stage with
  | .s1 => { s with tables := initTables, seq := startExpansion .keyBuffer .saltBuffer { s.seq with stage := .s2 } }
  | .s2 => if lastPair s.seq.phase then enterStage3 (expansionStep s) else expansionStep s
  | .s3a => if lastPair s.seq.phase then enterStage3b (expansionStep s) else expansionStep s
  | .s3b => if lastPair s.seq.phase then endRepetition (expansionStep s) else expansionStep s

/-- Where DIGEST stands after a block (43_digest.md R170): the next block of the pass, or block 0 of the next pass. -/
def nextDigestBlock (q : Sequencer) : Sequencer :=
  if h : q.dblk.val + 1 < 3 then { q with dblk := ⟨q.dblk.val + 1, h⟩ }
  else { q with dblk := 0, dpass := q.dpass + 1 }

/-- The step from this position is DIGEST's last: block 2 of pass 63 (43_digest.md R170). -/
def lastDigestBlock (q : Sequencer) : Bool := q.dblk.val + 1 == 3 && q.dpass.val + 1 == 64

/-- An engine step of DIGEST (43_digest.md R172): one block encryption of the working buffer; the last also writes DIGEST and
completes. -/
def digestStep (s : State) : State :=
  let dw := digestBlock s.tables s.seq.dw s.seq.dblk
  if lastDigestBlock s.seq then
    completeCommand false { s with digest := digestResult dw, seq := { s.seq with dw := dw } }
  else { s with seq := nextDigestBlock { s.seq with dw := dw } }

/-- One engine step (42_key_schedule.md R150); the engine has none when no command is in progress (10_state.md R20). -/
def engineStep (s : State) : State :=
  if s.status.busy then
    match s.seq.op with
    | .init => initStep s
    | .expand => expandStep s
    | .eks => eksStep s
    | .encrypt => encryptStep s
    | .digest => digestStep s
  else s

/-- How many engine steps a command takes from acceptance to completion (42_key_schedule.md R150 to R152; 43_digest.md R172). -/
def engineSteps : Instr → Nat
  | .nop => 0
  | .init => 1
  | .expand _ _ => 539
  | .eks c => 1 + 539 * (1 + 2 ^ (c.toNat + 1))
  | .encrypt => 1
  | .digest => 192

/-- The work of a command in block encryptions (42_key_schedule.md R148). -/
def encryptionWork : Instr → Nat
  | .nop => 0
  | .init => 0
  | .expand _ _ => 521
  | .eks c => 521 * (1 + 2 ^ (c.toNat + 1))
  | .encrypt => 1
  | .digest => 192

/-- How many block encryptions the next engine step makes (42_key_schedule.md R150): none for a table copy or a key-phase
word, one for an encryption-phase pair, an ENCRYPT or a DIGEST block. -/
def stepEncryptions (s : State) : Nat :=
  if s.status.busy then
    match s.seq.op, s.seq.stage, s.seq.phase with
    | .init, _, _ => 0
    | .expand, _, .keyXor _ => 0
    | .expand, _, .encrypt _ => 1
    | .eks, .s1, _ => 0
    | .eks, _, .keyXor _ => 0
    | .eks, _, .encrypt _ => 1
    | .encrypt, _, _ => 1
    | .digest, _, _ => 1
  else 0

/-- The block encryptions made in the next `n` engine steps. -/
def encryptionsDone : Nat → State → Nat
  | 0, _ => 0
  | n + 1, s => stepEncryptions s + encryptionsDone n (engineStep s)

end Sys2Proof.Machine
end

