-- ==== Sys2Proof/Machine/Control.lean ====
section
/-! DEFINITION. The meaning of NOP (spec/60_exceptions.md R207). -/

namespace Sys2Proof.Machine

/-- NOP (60_exceptions.md R207): completes in the acceptance step; BUSY never becomes 1, TV is unchanged. -/
def execNop (s : State) : Host.Outcome State Fault Refusal := issueCommand .nop (completeCommand false) s

end Sys2Proof.Machine
end

