-- ==== Sys2Proof/Machine/Encryption.lean ====
section
/-! DEFINITION. The meanings of the commands that only read P and S: ENCRYPT and DIGEST (spec/40_cipher.md R103;
spec/43_digest.md R170). A meaning is the acceptance step (spec/60_exceptions.md R200); the engine steps it starts are
`engineStep`'s. -/

namespace Sys2Proof.Machine

/-- ENCRYPT (40_cipher.md R103): TV is checked at acceptance; the engine's one step encrypts `(DATA_L, DATA_R)`. -/
def execEncrypt (s : State) : Host.Outcome State Fault Refusal := issueCommand .encrypt startEncrypt s

/-- DIGEST (43_digest.md R170): TV is checked at acceptance; 192 engine steps write `DIGEST[0..5]`. -/
def execDigest (s : State) : Host.Outcome State Fault Refusal := issueCommand .digest startDigest s

end Sys2Proof.Machine
end

