-- ==== Sys2Proof/Machine/KeySetup.lean ====
section
/-! DEFINITION. The meanings of the commands that write P and S: INIT, EXPAND, EKS (spec/41_init_tables.md R120;
spec/42_key_schedule.md R140, R145). A meaning is the acceptance step (spec/60_exceptions.md R200); the engine steps it starts
are `engineStep`'s. -/

namespace Sys2Proof.Machine

/-- INIT (41_init_tables.md R120): no check; the engine's one step copies the tables. -/
def execInit (s : State) : Host.Outcome State Fault Refusal := issueCommand .init startInit s

/-- EXPAND (42_key_schedule.md R140): TV and the salt length are checked at acceptance. -/
def execExpand (ksrc : KeySrc) (ssrc : SaltSrc) (s : State) : Host.Outcome State Fault Refusal :=
  issueCommand (.expand ksrc ssrc) (startExpand ksrc ssrc) s

/-- EKS (42_key_schedule.md R145): the cost and the salt length are checked at acceptance. -/
def execEks (cost : BitVec 5) (s : State) : Host.Outcome State Fault Refusal :=
  issueCommand (.eks cost) (startEks cost) s

end Sys2Proof.Machine
end

