-- ==== Sys2Proof/Machine/Dispatch.lean ====
section
/-! DEFINITION. The command's meaning, one arm per constructor of `Instr` (spec/30_encoding.md R83). -/

namespace Sys2Proof.Machine

def exec (i : Instr) (s : State) : Host.Outcome State Fault Refusal :=
  match i with
  | .nop => Sys2Proof.Machine.execNop s
  | .init => Sys2Proof.Machine.execInit s
  | .expand ksrc ssrc => Sys2Proof.Machine.execExpand ksrc ssrc s
  | .eks cost => Sys2Proof.Machine.execEks cost s
  | .encrypt => Sys2Proof.Machine.execEncrypt s
  | .digest => Sys2Proof.Machine.execDigest s

end Sys2Proof.Machine
end

