-- ==== Sys2Proof/Machine/Window.lean ====
section
/-! DEFINITION. The register window: the register map and the host's accesses (spec/20_memory.md R50 to R60). -/

namespace Sys2Proof.Machine

/-- A mapped register (20_memory.md R52). -/
inductive Reg where
  | cmd
  | status
  | keyLen
  | saltLen
  | dataL
  | dataR
  | key (i : Fin 18)
  | salt (i : Fin 4)
  | digest (i : Fin 6)
  | p (i : Fin 18)
  | s (k : Fin 4) (j : Fin 256)
deriving DecidableEq, Repr

/-- The byte offset of a register (20_memory.md R52). -/
def regOffset : Reg → Nat
  | .cmd => 0x0000
  | .status => 0x0004
  | .keyLen => 0x0008
  | .saltLen => 0x000C
  | .dataL => 0x0010
  | .dataR => 0x0014
  | .key i => 0x0040 + 4 * i.val
  | .salt i => 0x00C0 + 4 * i.val
  | .digest i => 0x0100 + 4 * i.val
  | .p i => 0x1000 + 4 * i.val
  | .s k j => 0x2000 + 0x400 * k.val + 4 * j.val

/-- The register at a byte offset (20_memory.md R52, the cases of R55); `none` where the offset is unmapped (R53). -/
def regAt (off : Nat) : Option Reg :=
  if off % 4 ≠ 0 then none
  else if off = 0x0000 then some .cmd
  else if off = 0x0004 then some .status
  else if off = 0x0008 then some .keyLen
  else if off = 0x000C then some .saltLen
  else if off = 0x0010 then some .dataL
  else if off = 0x0014 then some .dataR
  else if h : 0x0040 ≤ off ∧ off ≤ 0x0084 then some (.key ⟨(off - 0x0040) / 4, by omega⟩)
  else if h : 0x00C0 ≤ off ∧ off ≤ 0x00CC then some (.salt ⟨(off - 0x00C0) / 4, by omega⟩)
  else if h : 0x0100 ≤ off ∧ off ≤ 0x0114 then some (.digest ⟨(off - 0x0100) / 4, by omega⟩)
  else if h : 0x1000 ≤ off ∧ off ≤ 0x1044 then some (.p ⟨(off - 0x1000) / 4, by omega⟩)
  else if h : 0x2000 ≤ off ∧ off ≤ 0x2FFC then
    some (.s ⟨(off - 0x2000) / 0x400, by omega⟩ ⟨(off - 0x2000) % 0x400 / 4, by omega⟩)
  else none

/-- Why an access is refused, if it is (20_memory.md R59): another width than 32 bits, an offset not a multiple of 4, an
offset above 0x3FFC. -/
def accessRefusal (width : Width) (off : Nat) : Option Refusal :=
  if width ≠ .w32 then some .accessWidth
  else if off % 4 ≠ 0 then some .accessMisaligned
  else if 0x3FFC < off then some .accessOutsideWindow
  else none

/-- `DIGEST[i]` as the host reads it (10_state.md R30): `DIGEST[5][7:0]` always reads as 0 (log 12). -/
def digestWord (s : State) (i : Fin 6) : Word := if i = 5 then s.digest[i] &&& 0xFFFFFF00 else s.digest[i]

/-- The value a read of a register returns (20_memory.md R55); `none` where the read returns an unspecified value: DATA, DIGEST,
P and S while BUSY = 1 (70_reset_and_hazards.md R251), P and S while TV = 0 (20_memory.md R54). -/
def readValue (r : Reg) (s : State) : Option Word :=
  match r with
  | .cmd => some s.cmd
  | .status => some (statusWord s.status)
  | .keyLen => some (s.keyLen.setWidth 32)
  | .saltLen => some (s.saltLen.setWidth 32)
  | .dataL => if s.status.busy then none else some s.dataL
  | .dataR => if s.status.busy then none else some s.dataR
  | .key i => some s.key[i]
  | .salt i => some s.salt[i]
  | .digest i => if s.status.busy then none else some (digestWord s i)
  | .p i => if s.status.busy || !s.status.tv then none else some s.tables.p[i]
  | .s k j => if s.status.busy || !s.status.tv then none else some s.tables.s[k][j]

/-- `MemRead(off, 4)` of an access that is not refused (20_memory.md R55): the value, and the state with the draw counted. -/
def memRead (off : Nat) (s : State) : Word × State :=
  match regAt off with
  | none => (0, s)
  | some r =>
    match readValue r s with
    | some v => (v, s)
    | none => drawWord s

/-- `AcceptCommand(w)` (60_exceptions.md R200): the word is decoded and its command executed, or rejected as illegal. -/
def acceptCommand (w : Word) (s : State) : Host.Outcome State Fault Refusal :=
  match decode w with
  | .command i => exec i s
  | .illegal => .next (rejectIllegal w s)

/-- A write to a register while BUSY = 0 (20_memory.md R55): read-only registers ignore it (R56), and a write to `CMD` issues
a command. -/
def writeReg (r : Reg) (v : Word) (s : State) : Host.Outcome State Fault Refusal :=
  match r with
  | .cmd => acceptCommand v s
  | .status => .next s
  | .keyLen => .next { s with keyLen := v.extractLsb' 0 7 }
  | .saltLen => .next { s with saltLen := v.extractLsb' 0 5 }
  | .dataL => .next { s with dataL := v }
  | .dataR => .next { s with dataR := v }
  | .key i => .next { s with key := s.key.set i v }
  | .salt i => .next { s with salt := s.salt.set i v }
  | .digest _ => .next s
  | .p _ => .next s
  | .s _ _ => .next s

/-- A write to `STATUS` (10_state.md R37): bit 3 = 1 clears OVERRUN, busy or idle; nothing else changes. -/
def writeStatus (v : Word) (s : State) : State :=
  if v.getLsbD 3 then { s with status := { s.status with overrun := false } } else s

/-- `MemWrite(off, 4, v)` of an access that is not refused (20_memory.md R55). -/
def memWrite (off : Nat) (v : Word) (s : State) : Host.Outcome State Fault Refusal :=
  if off = 0x0004 then .next (writeStatus v s)
  else if s.status.busy then .next (dropWrite s)
  else
    match regAt off with
    | none => .next s
    | some r => writeReg r v s

/-- The host address of an offset (20_memory.md R51). -/
def hostAddress (off : Nat) : Nat := Config.engineBase + off

/-- The offset a host address has in the window (20_memory.md R51); `none` for an address outside it (R61). Log 8. -/
def windowOffset (addr : Nat) : Option Nat :=
  if Config.engineBase ≤ addr ∧ addr < Config.engineBase + 0x4000 then some (addr - Config.engineBase) else none

end Sys2Proof.Machine
end

