-- ==== Sys2Proof/Machine/Agents.lean ====
section
/-! DEFINITION. The two agents and the reset event: what one turn does (spec/10_state.md R20; spec/20_memory.md R55, R62;
spec/70_reset_and_hazards.md R240, R262), and the host's pseudo-instructions (spec/30_encoding.md R87, R88). -/

namespace Sys2Proof.Machine

/-- The host performs one statement, already taken off its program, whose remaining statements are `rest`. A refused access
leaves the host stuck (20_memory.md R59). WAIT is one read of STATUS: it stays while BUSY = 1 (30_encoding.md R88). -/
def hostStatement (st : HostStmt) (rest : List HostStmt) (s : State) : Host.Outcome State Fault Refusal :=
  match st with
  | .wr off width v =>
    match accessRefusal width off with
    | some r => .refused r
    | none => memWrite off v { s with program := rest }
  | .rd off width =>
    match accessRefusal width off with
    | some r => .refused r
    | none =>
      let (v, t) := memRead off { s with program := rest }
      .next { t with received := v :: t.received }
  | .wait => if (statusWord s.status).getLsbD 0 then .next s else .next { s with program := rest }

/-- One host step (20_memory.md R55): the next statement of its program; a host with nothing left to do lets its turn pass
(log 10). -/
def hostStep (s : State) : Host.Outcome State Fault Refusal :=
  match s.program with
  | [] => .next s
  | st :: rest => hostStatement st rest s

/-- One turn: a step of the host, a step of the engine, or a reset (10_state.md R20). -/
def takeTurn (t : Turn) (s : State) : Host.Outcome State Fault Refusal :=
  match t with
  | .host => hostStep s
  | .engine => .next (engineStep s)
  | .reset => .next (resetBlock s)

/-- Who moves when no turn is scheduled: a busy engine (the weak fairness of 70_reset_and_hazards.md R262), else the host.
Log 1. -/
def defaultTurn (s : State) : Turn := if s.status.busy then .engine else .host

/-- One step of the interleaving (20_memory.md R62): the next scheduled turn, or the default one. -/
def nextTurn (s : State) : Host.Outcome State Fault Refusal :=
  match s.turns with
  | [] => takeTurn (defaultTurn s) s
  | t :: ts => takeTurn t { s with turns := ts }

/-- `WR <reg>, <value>` (30_encoding.md R87). -/
def wr (r : Reg) (v : Word) : HostStmt := .wr (regOffset r) .w32 v

/-- `RD <reg>` (30_encoding.md R87). -/
def rd (r : Reg) : HostStmt := .rd (regOffset r) .w32

/-- `CMD <command>` (30_encoding.md R87). -/
def cmd (i : Instr) : HostStmt := wr .cmd (encode i)

/-- A buffer word of a byte string: bytes `4i .. 4i+3`, big-endian, missing bytes 0 (30_encoding.md R88). -/
def packWord (b : List Byte) (i : Nat) : Word :=
  [0, 1, 2, 3].foldl (fun w k => (w <<< 8) ||| (b.getD (4 * i + k) 0).setWidth 32) 0

/-- `LOADKEY "<bytes>"` (30_encoding.md R88): the words that hold a byte, then KEYLEN. The buffer holds 72 bytes (10_state.md
R26). -/
def loadKey (b : List Byte) : List HostStmt :=
  (((List.finRange 18).filter (fun i => 4 * i.val < b.length)).map (fun i => wr (.key i) (packWord b i.val))) ++
    [wr .keyLen (BitVec.ofNat 32 b.length)]

/-- `LOADSALT <16 bytes>` (30_encoding.md R88). -/
def loadSalt (b : List Byte) : List HostStmt :=
  ((List.finRange 4).map (fun i => wr (.salt i) (packWord b i.val))) ++ [wr .saltLen 16]

/-- `BFKEY` (30_encoding.md R88): the stock Blowfish key schedule (42_key_schedule.md R144). -/
def bfKey : List HostStmt := [cmd .init, .wait, cmd (.expand .keyBuffer .zero), .wait]

/-- `BCRYPT <cost>` (30_encoding.md R88). -/
def bcrypt (cost : BitVec 5) : List HostStmt := [cmd (.eks cost), .wait, cmd .digest, .wait]

/-- `CLRERR` (30_encoding.md R88). -/
def clrErr : List HostStmt := [cmd .nop]

/-- The scrub of 70_reset_and_hazards.md R245: 0 to KEY, KEYLEN, SALT, SALTLEN, then INIT. -/
def scrub : List HostStmt :=
  ((List.finRange 18).map (fun i => wr (.key i) 0)) ++ [wr .keyLen 0] ++
    ((List.finRange 4).map (fun i => wr (.salt i) 0)) ++ [wr .saltLen 0, cmd .init, .wait]

end Sys2Proof.Machine
end

