-- ==== Sys2Proof/Machine/Step.lean ====
section
/-! DEFINITION. One step of the machine, and how a command word is placed as the host's next access. -/

namespace Sys2Proof.Machine

/-- One step: a turn of the host, of the engine, or a reset (spec/10_state.md R20; spec/20_memory.md R62). -/
def step (s : State) : Host.Outcome State Fault Refusal := nextTurn s

/-- `s` with a write of a command word to `CMD` as the very next step: the statement stands first in the host's program, the
host moves next, and the engine is idle, so the write is accepted (spec/60_exceptions.md R200). The block fetches nothing
(spec/10_state.md R40): a command word is always written by the host. Bits above `nbits` are 0. Log 5. -/
def State.withFetchWord (s : State) (nbits w : Nat) : State :=
  { s with
    program := .wr 0x0000 .w32 (BitVec.ofNat 32 (w % 2 ^ nbits)) :: s.program,
    turns := .host :: s.turns,
    status := { s.status with busy := false } }

end Sys2Proof.Machine
end

