-- ==== Sys2Proof/Safety.lean ====
section
/-! DEFINITION. The words the statements use: who moves, what a finished command leaves in STATUS, running a command to its
completion, the invariant of the block, and the host's one hazard rule (spec/10_state.md R32 to R38; spec/42_key_schedule.md
R147, R151, R152; spec/70_reset_and_hazards.md R252). -/

namespace Sys2Proof.Machine

/-- The engine is idle: it accepts a command (60_exceptions.md R200). -/
abbrev Idle (s : State) : Prop := s.status.busy = false

/-- Who moves in the next step (10_state.md R20; log 1). -/
def turnOf (s : State) : Turn :=
  match s.turns with
  | [] => defaultTurn s
  | t :: _ => t

/-- The state the agent that moves sees: its turn is taken off the schedule (log 1). -/
def afterTurn (s : State) : State := { s with turns := s.turns.tail }

/-- STATUS after a normal completion (60_exceptions.md R206), with TV = `tv`. -/
def completedStatus (st : Status) (tv : Bool) : Status :=
  { busy := false, done := true, err := false, overrun := st.overrun, tv := tv, errCode := .noError }

/-- STATUS while an accepted command runs (60_exceptions.md R200; 10_state.md R32): BUSY = 1 implies DONE, ERR, ERRCODE 0. -/
def startedStatus (st : Status) : Status :=
  { busy := true, done := false, err := false, overrun := st.overrun, tv := st.tv, errCode := .noError }

/-- The state after an accepted command that ended with an error (60_exceptions.md R205): CMD holds the word, STATUS records
the code, nothing else is changed. -/
def errorEnd (i : Instr) (code : ErrCode) (s : State) : State :=
  { s with cmd := encode i, status := { s.status with done := true, err := true, errCode := code } }

/-- A command issued on `s` and run to its completion with no other step between (42_key_schedule.md R147, R153). -/
def runCommand (i : Instr) (s : State) : State :=
  match exec i s with
  | .next t => engineStep^[engineSteps i] t
  | .fault _ => s
  | .refused _ => s

/-- The legal combinations of STATUS (10_state.md R32). -/
def statusLegal (st : Status) : Bool :=
  (!st.busy || (!st.done && !st.err && st.errCode == .noError)) &&
    (if st.err then st.done && st.errCode != .noError else st.errCode == .noError)

/-- The stream offsets and the running block agree with the position of the expansion (42_key_schedule.md R152; 10_state.md R38). -/
def positionOk (q : Sequencer) : Bool :=
  match q.phase with
  | .keyXor i => q.ko == 4 * i.val && q.so == 0 && q.block == ⟨0, 0⟩
  | .encrypt n => q.ko == 72 && q.so == 8 * n.val

/-- An EKS stage has the sources and the repetition count of its row of the stage table (42_key_schedule.md R151, R154). -/
def eksStageOk (q : Sequencer) : Bool :=
  match q.stage with
  | .s1 => true
  | .s2 => positionOk q && q.ksrc == .keyBuffer && q.ssrc == .saltBuffer
  | .s3a => positionOk q && q.ksrc == .keyBuffer && q.ssrc == .zero && decide (q.iter.toNat < 2 ^ q.cost.toNat)
  | .s3b => positionOk q && q.ksrc == .saltBuffer && q.ssrc == .zero && decide (q.iter.toNat < 2 ^ q.cost.toNat)

/-- What holds of a command in progress (10_state.md R38): it passed its checks (60_exceptions.md R210), and its position is one
the sequencer reaches. -/
def inProgressOk (s : State) : Bool :=
  match s.seq.op with
  | .init => true
  | .expand => s.status.tv && positionOk s.seq &&
      (!readsSaltBuffer s.seq.ksrc s.seq.ssrc || decide (s.saltLen.toNat ≤ 16))
  | .eks => decide (4 ≤ s.seq.cost.toNat) && decide (s.saltLen = 16) && eksStageOk s.seq
  | .encrypt => s.status.tv
  | .digest => s.status.tv

/-- The invariant of the block: STATUS is a legal combination, a command in progress is at a legal position and computes from
valid tables, and the 24th digest byte is 0 (10_state.md R30, R32, R38). -/
def blockInv (s : State) : Bool :=
  statusLegal s.status && (!s.status.busy || inProgressOk s) && (s.digest[5] &&& 0xFF == 0)

/-- The host's one hazard rule (70_reset_and_hazards.md R252, with R243's TV = 1 before P and S are read): while BUSY = 1 it
only polls STATUS; while idle it makes any access that is not refused, and reads the tables only when they are valid. -/
def disciplined (s : State) : Bool :=
  match s.program with
  | [] => true
  | st :: _ =>
    match st with
    | .wait => true
    | .rd off width =>
      decide (accessRefusal width off = none) &&
        (if s.status.busy then off == 0x0004 else s.status.tv || decide (off < 0x1000))
    | .wr off width _ => decide (accessRefusal width off = none) && (!s.status.busy || off == 0x0004)

/-- The two states agree on everything a host access may show while BUSY = 1 (10_state.md R38; 70_reset_and_hazards.md R251):
they may differ in P, S, DATA, DIGEST and the sequencer. -/
def sameToHost (s t : State) : Prop :=
  t = { s with tables := t.tables, dataL := t.dataL, dataR := t.dataR, digest := t.digest, seq := t.seq }

end Sys2Proof.Machine
end

