-- ==== Sys2Proof/Certificates/Slice0/Obligations.lean ====
section
/-! DEFINITION. The statements for the provers, in the order of OBLIGATIONS.json. Each docstring names the rule of spec/ it
formalises; a clause that rests on a choice of the model names its log entry. -/

open Sys2Proof Sys2Proof.Machine

/-! ### Command words (spec/30_encoding.md) -/

/-- Words of spec/30_encoding.md R83, R89 and of the V-DEC vectors of spec/95_test_vectors.md decode as the spec says. -/
def Obligations.SpecWordsDecode : Prop :=
  decode 0x00000000 = .command .nop ∧ decode 0x00000001 = .command .init ∧
  decode 0x00000002 = .command (.expand .keyBuffer .saltBuffer) ∧
  decode 0x00020002 = .command (.expand .keyBuffer .zero) ∧
  decode 0x00030002 = .command (.expand .saltBuffer .zero) ∧
  decode 0x00010002 = .command (.expand .saltBuffer .saltBuffer) ∧
  decode 0x00000403 = .command (.eks 4) ∧ decode 0x00000C03 = .command (.eks 12) ∧
  decode 0x00001F03 = .command (.eks 31) ∧ decode 0x00000303 = .command (.eks 3) ∧
  decode 0x00000004 = .command .encrypt ∧ decode 0x00000005 = .command .digest ∧
  decode 0x00000006 = .illegal ∧ decode 0x0000000F = .illegal ∧ decode 0x00000104 = .illegal ∧
  decode 0x00010003 = .illegal ∧ decode 0x00040002 = .illegal ∧ decode 0x00000013 = .illegal ∧
  decode 0x80000001 = .illegal

/-- R89 with R84: a word decodes to a command exactly when it is that command's encoding. Every operand at every value its
field holds is covered, and no two words decode to one command. -/
def Obligations.DecodeAndEncodeAreInverse : Prop :=
  ∀ (w : Word) (i : Instr), decode w = .command i ↔ w = encode i

/-- R85: a word is ILLEGAL exactly when its OP is 6 to 15, a reserved bit is set or a field its OP does not use is set
(`legalWord`); its write to CMD while idle completes at once with ILLEGAL_COMMAND, whatever TV, and changes nothing else; an
EKS word with COST 0 to 3 is a legal encoding. -/
def Obligations.IllegalWordsAreRejected : Prop :=
  (∀ w, decode w = .illegal ↔ legalWord w = false) ∧
  (∀ (w : Word) (s : State), Idle s → decode w = .illegal →
    memWrite 0x0000 w s = .next { s with
      cmd := w, status := { s.status with done := true, err := true, errCode := .illegalCommand } }) ∧
  (∀ c : BitVec 5, c.toNat < 4 → legalWord (0x3 ||| c.setWidth 32 <<< 8) = true)

/-! ### A step runs the decoded command (spec/20_memory.md R55, spec/60_exceptions.md R200) -/

/-- When the host moves, its next statement writes `w` to CMD, the engine is idle and `w` decodes to `i`, the step is `exec i`
on the state with the statement and the turn taken. `withFetchWord` (log 5) places exactly that. -/
def Obligations.StepRunsDecodedCommand : Prop :=
  (∀ (s : State) (w : Word) (i : Instr) (rest : List HostStmt),
    turnOf s = .host → s.program = .wr 0x0000 .w32 w :: rest → Idle s → decode w = .command i →
      step s = exec i { s with program := rest, turns := s.turns.tail }) ∧
  (∀ (s : State) (w : Word) (i : Instr), decode w = .command i →
      step (s.withFetchWord 32 w.toNat) = exec i { s with status := { s.status with busy := false } })

/-- R250 for a command: while BUSY = 1 a command word is dropped, neither queued nor started; only OVERRUN changes. -/
def Obligations.BusyCommandIsDropped : Prop :=
  ∀ (i : Instr) (s : State), s.status.busy = true →
    exec i s = .next { s with status := { s.status with overrun := true } } ∧
    memWrite 0x0000 (encode i) s = .next { s with status := { s.status with overrun := true } }

/-! ### The commands complete (spec/40, 41, 42, 43, 60). Each equation is of whole states: it is the frame too. -/

/-- R207: NOP is the word 0 alone, any other word of OP 0 is ILLEGAL; it completes in the acceptance step, with TV 0 or 1, and
changes only CMD and STATUS. -/
def Obligations.NopCompletesAtOnce : Prop :=
  (∀ w, decode w = .command .nop ↔ w = 0x00000000) ∧
  (∀ w, w.extractLsb' 0 4 = 0 → w ≠ 0 → decode w = .illegal) ∧
  ∀ s : State, Idle s →
    exec .nop s = .next { s with cmd := 0x00000000, status := completedStatus s.status s.status.tv }

/-- R120: INIT has no check; its one engine step loads the tables and sets TV. Nothing but P, S, CMD, STATUS and the
sequencer's `op` changes. -/
def Obligations.InitLoadsTables : Prop :=
  ∀ s : State, Idle s → ∃ t,
    exec .init s = .next t ∧
    t = { s with cmd := 0x00000001, status := startedStatus s.status, seq := { s.seq with op := .init } } ∧
    engineStep t = { s with tables := initTables, cmd := 0x00000001, status := completedStatus s.status true,
                            seq := { s.seq with op := .init } }

/-- R103: ENCRYPT with TV = 1 encrypts `(DATA_L, DATA_R)` in place in its one engine step; P, S, KEY, SALT, DIGEST and TV are
unchanged. -/
def Obligations.EncryptEncryptsData : Prop :=
  ∀ s : State, Idle s → s.status.tv = true → ∃ t,
    exec .encrypt s = .next t ∧
    t = { s with cmd := 0x00000004, status := startedStatus s.status, seq := { s.seq with op := .encrypt } } ∧
    engineStep t = { s with dataL := (encryptBlock s.tables ⟨s.dataL, s.dataR⟩).l,
                            dataR := (encryptBlock s.tables ⟨s.dataL, s.dataR⟩).r,
                            cmd := 0x00000004, status := completedStatus s.status true,
                            seq := { s.seq with op := .encrypt } }

/-- R140, R152: EXPAND that passes its checks is accepted, is busy for 539 engine steps and leaves `Expand(key, salt)` of R138
in P and S; nothing but P, S, CMD, STATUS and the hidden sequencer (R38) changes. All four source combinations. -/
def Obligations.ExpandExpandsTables : Prop :=
  ∀ (s : State) (k : KeySrc) (z : SaltSrc), Idle s → s.status.tv = true →
    ((k = .saltBuffer ∨ z = .saltBuffer) → s.saltLen.toNat ≤ 16) → ∃ t,
      exec (.expand k z) s = .next t ∧
      (∀ n, n < 539 → (engineStep^[n] t).status = startedStatus s.status) ∧
      ∃ q, engineStep^[539] t = { s with
        tables := expandTables (keyOperand k s) (saltOperand z s) s.tables,
        cmd := encode (.expand k z), status := completedStatus s.status true, seq := q }

/-- R145, R151: EKS that passes its checks is accepted with TV 0 or 1, is busy for `1 + 539 (1 + 2^(cost+1))` engine steps and
leaves the EksBlowfish tables of (COST, key, salt) with TV = 1; nothing but P, S, CMD, STATUS and the hidden sequencer
changes, and the tables before the command do not matter. -/
def Obligations.EksSetsUpTables : Prop :=
  ∀ (s : State) (c : BitVec 5), Idle s → 4 ≤ c.toNat → s.saltLen = 16 → ∃ t,
    exec (.eks c) s = .next t ∧
    (∀ n, n < 1 + 539 * (1 + 2 ^ (c.toNat + 1)) → (engineStep^[n] t).status = startedStatus s.status) ∧
    ∃ q, engineStep^[1 + 539 * (1 + 2 ^ (c.toNat + 1))] t = { s with
      tables := eksTables c (keyBytes s) (saltBytes s),
      cmd := encode (.eks c), status := completedStatus s.status true, seq := q }

/-- R170, R172: DIGEST with TV = 1 is accepted, is busy for 192 engine steps and writes the first 23 bytes of the 64-pass
buffer to DIGEST, the 24th byte 0; P and S are unchanged. -/
def Obligations.DigestWritesDigest : Prop :=
  ∀ s : State, Idle s → s.status.tv = true → ∃ t,
    exec .digest s = .next t ∧
    (∀ n, n < 192 → (engineStep^[n] t).status = startedStatus s.status) ∧
    ∃ q, engineStep^[192] t = { s with
      digest := (digestBuffer s.tables).set 5 ((digestBuffer s.tables)[5] &&& 0xFFFFFF00),
      cmd := 0x00000005, status := completedStatus s.status true, seq := q }

/-! ### Errors (spec/60_exceptions.md R200 to R214) -/

/-- R202: EXPAND, ENCRYPT and DIGEST accepted while TV = 0 end with TABLES_NOT_VALID, whatever SALTLEN holds; INIT, EKS and NOP
never raise it. -/
def Obligations.TablesNotValidIsRaised : Prop :=
  (∀ (s : State) (i : Instr), Idle s → s.status.tv = false →
    ((∃ k z, i = .expand k z) ∨ i = .encrypt ∨ i = .digest) → exec i s = .next (errorEnd i .tablesNotValid s)) ∧
  (∀ (s t : State) (i : Instr), Idle s → (i = .init ∨ i = .nop ∨ ∃ c, i = .eks c) → exec i s = .next t →
    t.status.errCode ≠ .tablesNotValid)

/-- R209: EKS with COST 0 to 3 ends with INVALID_COST, whatever SALTLEN holds (R210's order) and whatever TV; EKS with COST 4 to
31, every other value of the field, never does: only the lower bound is checked. -/
def Obligations.InvalidCostIsRaised : Prop :=
  (∀ (s : State) (c : BitVec 5), Idle s → c.toNat < 4 → exec (.eks c) s = .next (errorEnd (.eks c) .invalidCost s)) ∧
  (∀ (s t : State) (c : BitVec 5), Idle s → 4 ≤ c.toNat → exec (.eks c) s = .next t → t.status.errCode ≠ .invalidCost)

/-- R203: EKS with a legal cost and SALTLEN other than 16, and EXPAND with valid tables that reads the salt buffer with SALTLEN
above 16, end with INVALID_SALT_LENGTH; EXPAND of the key buffer with the zero salt never raises it. -/
def Obligations.InvalidSaltLengthIsRaised : Prop :=
  (∀ (s : State) (c : BitVec 5), Idle s → 4 ≤ c.toNat → s.saltLen ≠ 16 →
    exec (.eks c) s = .next (errorEnd (.eks c) .invalidSaltLength s)) ∧
  (∀ (s : State) (k : KeySrc) (z : SaltSrc), Idle s → s.status.tv = true → (k = .saltBuffer ∨ z = .saltBuffer) →
    16 < s.saltLen.toNat → exec (.expand k z) s = .next (errorEnd (.expand k z) .invalidSaltLength s)) ∧
  (∀ s t : State, Idle s → exec (.expand .keyBuffer .zero) s = .next t → t.status.errCode ≠ .invalidSaltLength)

/-- R205: an accepted command that ends with an error changes nothing but CMD, DONE, ERR and ERRCODE. -/
def Obligations.FailedCommandChangesOnlyStatus : Prop :=
  ∀ (i : Instr) (s t : State), Idle s → exec i s = .next t → t.status.err = true →
    t.status.errCode ≠ .noError ∧ t = errorEnd i t.status.errCode s

/-- R210: the code an accepted word is answered with, ILLEGAL_COMMAND first, then TABLES_NOT_VALID, INVALID_COST,
INVALID_SALT_LENGTH; ERR tells whether there is one. -/
def Obligations.ChecksAreMadeInOrder : Prop :=
  ∀ (w : Word) (s : State), Idle s → ∃ t, memWrite 0x0000 w s = .next t ∧ t.cmd = w ∧
    t.status.err = decide (t.status.errCode ≠ .noError) ∧
    (decode w = .illegal → t.status.errCode = .illegalCommand) ∧
    (decode w = .command .nop ∨ decode w = .command .init → t.status.errCode = .noError) ∧
    (∀ k z, decode w = .command (.expand k z) → t.status.errCode =
      if s.status.tv = false then .tablesNotValid
      else if (k = .saltBuffer ∨ z = .saltBuffer) ∧ 16 < s.saltLen.toNat then .invalidSaltLength else .noError) ∧
    (∀ c, decode w = .command (.eks c) → t.status.errCode =
      if c.toNat < 4 then .invalidCost else if s.saltLen ≠ 16 then .invalidSaltLength else .noError) ∧
    (decode w = .command .encrypt ∨ decode w = .command .digest → t.status.errCode =
      if s.status.tv = false then .tablesNotValid else .noError)

/-- R206, "No command that has passed its checks can fail afterwards": an engine step never leaves an error. -/
def Obligations.RunningCommandNeverFails : Prop :=
  ∀ s : State, s.status.busy = true → statusLegal s.status = true →
    (engineStep s).status.err = false ∧ (engineStep s).status.errCode = .noError ∧ statusLegal (engineStep s).status = true

/-! ### The tables and the streams (spec/41, 42, 43). R121, R122, R135, R139, R141, R142, R147, R148, R171 are marked by the spec
as derived or as general knowledge: the statements have basis 'derived'. -/

/-- R120, R122: INIT's tables are the pi words in R121's order, and the check values of R122 hold of them. -/
def Obligations.InitTablesAreThePiWords : Prop :=
  (∀ i : Fin 18, some initTables.p[i] = piWords[i.val]?) ∧
  (∀ (k : Fin 4) (j : Fin 256), some initTables.s[k][j] = piWords[18 + 256 * k.val + j.val]?) ∧
  piWords[0]? = some 0x243F6A88 ∧ piWords[17]? = some 0x8979FB1B ∧ piWords[18]? = some 0xD1310BA6 ∧
  piWords[273]? = some 0x6E85076A ∧ piWords[274]? = some 0x4B7A70E9 ∧ piWords[530]? = some 0xE93D5A68 ∧
  piWords[786]? = some 0x3A39CE37 ∧ piWords[1041]? = some 0x3AC372E6 ∧ piWords.length = 1042 ∧
  feistel initTables 0 = 0x2FCFF51E

/-- R131: the stream word at `off` is the four bytes `b[(off + t) mod len(b)]`, the first the most significant; the empty
string gives 0; the offset advances by 4. -/
def Obligations.StreamWordIsCyclicBigEndian : Prop :=
  (∀ (b : List Byte) (off k : Nat), k < 4 → b ≠ [] → some (byteOf k (streamWord b off).1) = b[(off + k) % b.length]?) ∧
  (∀ off, (streamWord [] off).1 = 0) ∧ (∀ (b : List Byte) (off : Nat), (streamWord b off).2 = off + 4)

/-- R26, R28: key byte `4i + k` is `byte_k(KEY[i])`, salt byte `4i + k` is `byte_k(SALT[i])`; the buffers hold 72 and 16. -/
def Obligations.BuffersArePackedBigEndian : Prop :=
  ∀ s : State, (keyBufferBytes s).length = 72 ∧ (saltBufferBytes s).length = 16 ∧
    (∀ (i : Fin 18) (k : Fin 4), (keyBufferBytes s)[4 * i.val + k.val]? = some (byteOf k.val s.key[i])) ∧
    (∀ (i k : Fin 4), (saltBufferBytes s)[4 * i.val + k.val]? = some (byteOf k.val s.salt[i]))

/-- R141 (a) to (c): key or salt material of zero bytes, of any number, expands as the empty string. -/
def Obligations.ZeroMaterialIsEmptyMaterial : Prop :=
  ∀ (n : Nat) (b : List Byte) (t : Tables),
    expandTables (List.replicate n 0) b t = expandTables [] b t ∧
    expandTables b (List.replicate n 0) t = expandTables b [] t

/-- R141 (d): a key that is a whole number of copies of a shorter string expands as that string. -/
def Obligations.RepeatedKeyExpandsAsOneCopy : Prop :=
  ∀ (r : Nat) (b salt : List Byte) (t : Tables), 0 < r →
    expandTables (List.replicate r b).flatten salt t = expandTables b salt t

/-- R135, R27: no key byte past index 71 affects an expansion, so a KEYLEN of 73 to 127 gives the result a key of that length
would give whose first 72 bytes are in the buffer. -/
def Obligations.KeyBytesPast72AreIgnored : Prop :=
  (∀ (key salt : List Byte) (t : Tables), 72 ≤ key.length → expandTables key salt t = expandTables (key.take 72) salt t) ∧
  (∀ (s : State) (key salt : List Byte) (t : Tables), 72 ≤ s.keyLen.toNat → key.length = s.keyLen.toNat →
    key.take 72 = keyBufferBytes s → expandTables (keyBytes s) salt t = expandTables key salt t)

/-- R139: with a 16-byte salt, salt-stream word `m` is `SALT[m mod 4]`. -/
def Obligations.SaltStreamHasPeriodFour : Prop :=
  ∀ (s : State) (m : Nat), s.saltLen = 16 →
    (streamWord (saltBytes s) (4 * m)).1 = s.salt[m % 4]'(Nat.mod_lt _ (by decide))

/-- R142: an expansion with empty key and salt stores `Enc(0, 0)` under the tables before it as its first pair. -/
def Obligations.EmptyExpansionStoresEncOfZeroFirst : Prop :=
  ∀ t : Tables, (expandTables [] [] t).p[0] = (encryptBlock t ⟨0, 0⟩).l ∧
    (expandTables [] [] t).p[1] = (encryptBlock t ⟨0, 0⟩).r

/-- R147: EKS leaves in P and S what INIT, EXPAND key=K salt=S and then `2^cost` times EXPAND key=K salt=Z, EXPAND key=S salt=Z
leave, and the same STATUS. -/
def Obligations.EksIsTheCommandSequence : Prop :=
  ∀ (s : State) (c : BitVec 5), Idle s → 4 ≤ c.toNat → s.saltLen = 16 →
    let byHand := (fun u => runCommand (.expand .saltBuffer .zero) (runCommand (.expand .keyBuffer .zero) u))^[2 ^ c.toNat]
      (runCommand (.expand .keyBuffer .saltBuffer) (runCommand .init s))
    (runCommand (.eks c) s).tables = byHand.tables ∧ (runCommand (.eks c) s).status = byHand.status

/-- R171: each digest block ends as `Enc` applied 64 times to its part of the magic constant. -/
def Obligations.DigestBlocksAreIndependent : Prop :=
  ∀ (t : Tables) (b : Fin 3),
    (⟨(digestBuffer t)[2 * b.val], (digestBuffer t)[2 * b.val + 1]⟩ : Block) =
      (encryptBlock t)^[64] ⟨ctext[2 * b.val], ctext[2 * b.val + 1]⟩

/-- R148: a command that passes its checks makes exactly the counted number of block encryptions before it completes. -/
def Obligations.EncryptionWorkIsExact : Prop :=
  ∀ (i : Instr) (s t : State), Idle s → check i s = .noError → exec i s = .next t →
    encryptionsDone (engineSteps i) t = encryptionWork i ∧ (engineStep^[engineSteps i] t).status.busy = false

/-! ### The register window (spec/20_memory.md R51 to R60; spec/70_reset_and_hazards.md R250, R251) -/

/-- R52: the register map gives every register its own aligned offset in the window, and no offset is two registers'. -/
def Obligations.RegisterMapIsOneToOne : Prop :=
  (∀ r : Reg, regAt (regOffset r) = some r ∧ regOffset r % 4 = 0 ∧ regOffset r ≤ 0x3FFC) ∧
  (∀ (off : Nat) (r : Reg), regAt off = some r → regOffset r = off)

/-- R51: ENGINE_BASE is a multiple of 0x4000, and the window is exactly the 16 KiB from it. -/
def Obligations.WindowIsSixteenKiB : Prop :=
  Config.engineBase % 0x4000 = 0 ∧ (∀ off, off < 0x4000 → windowOffset (hostAddress off) = some off) ∧
    (∀ a off, windowOffset a = some off → off < 0x4000 ∧ hostAddress off = a)

/-- R253, R55, R60: a host register written while idle reads back the new value, and nothing else changes. KEYLEN keeps 7 bits,
SALTLEN 5 (R27, R29). -/
def Obligations.WrittenRegisterReadsBack : Prop :=
  ∀ (s : State) (v : Word), Idle s →
    (∃ t, memWrite 0x0008 v s = .next t ∧ memRead 0x0008 t = (v &&& 0x7F, t) ∧ t = { s with keyLen := t.keyLen }) ∧
    (∃ t, memWrite 0x000C v s = .next t ∧ memRead 0x000C t = (v &&& 0x1F, t) ∧ t = { s with saltLen := t.saltLen }) ∧
    (∃ t, memWrite 0x0010 v s = .next t ∧ memRead 0x0010 t = (v, t) ∧ t = { s with dataL := v }) ∧
    (∃ t, memWrite 0x0014 v s = .next t ∧ memRead 0x0014 t = (v, t) ∧ t = { s with dataR := v }) ∧
    (∀ i : Fin 18, ∃ t, memWrite (0x0040 + 4 * i.val) v s = .next t ∧ memRead (0x0040 + 4 * i.val) t = (v, t) ∧
      t = { s with key := s.key.set i v }) ∧
    (∀ i : Fin 4, ∃ t, memWrite (0x00C0 + 4 * i.val) v s = .next t ∧ memRead (0x00C0 + 4 * i.val) t = (v, t) ∧
      t = { s with salt := s.salt.set i v })

/-- R31: whatever word is written to CMD while idle, legal or not, it is accepted and CMD reads back that word. -/
def Obligations.CmdReadsLastAcceptedWord : Prop :=
  ∀ (s : State) (w : Word), Idle s → ∃ t, memWrite 0x0000 w s = .next t ∧ memRead 0x0000 t = (w, t)

/-- R250: while BUSY = 1 every write but to STATUS is dropped and sets OVERRUN; a write to STATUS has only its OVERRUN-clear
effect. -/
def Obligations.BusyWritesAreDropped : Prop :=
  ∀ (s : State) (off : Nat) (v : Word), s.status.busy = true →
    (off ≠ 0x0004 → memWrite off v s = .next { s with status := { s.status with overrun := true } }) ∧
    memWrite 0x0004 v s = .next { s with
      status := { s.status with overrun := if v.getLsbD 3 then false else s.status.overrun } }

/-- R53, R56: while idle, writes to DIGEST, P, S and every unmapped word offset (D5's list) are ignored, and an unmapped
offset reads as 0, busy or idle. -/
def Obligations.ReadOnlyAndUnmappedOffsets : Prop :=
  (∀ (s : State) (off : Nat) (v : Word), Idle s → off % 4 = 0 →
    ((0x0018 ≤ off ∧ off ≤ 0x003C) ∨ (0x0088 ≤ off ∧ off ≤ 0x00BC) ∨ (0x00D0 ≤ off ∧ off ≤ 0x3FFC)) →
      memWrite off v s = .next s) ∧
  (∀ (s : State) (off : Nat), off % 4 = 0 →
    ((0x0018 ≤ off ∧ off ≤ 0x003C) ∨ (0x0088 ≤ off ∧ off ≤ 0x00BC) ∨ (0x00D0 ≤ off ∧ off ≤ 0x00FC) ∨
      (0x0118 ≤ off ∧ off ≤ 0x0FFC) ∨ (0x1048 ≤ off ∧ off ≤ 0x1FFC) ∨ (0x3000 ≤ off ∧ off ≤ 0x3FFC)) →
      memRead off s = (0, s))

/-- R251, R54: while BUSY = 1 reads of DATA, DIGEST, P and S draw (log 4), and while idle with TV = 0 so do reads of P and S;
CMD, STATUS, KEYLEN, SALTLEN, KEY and SALT read their current values, busy or idle. -/
def Obligations.UnspecifiedReadsAreDraws : Prop :=
  (∀ (s : State) (r : Reg), s.status.busy = true →
    (r = .dataL ∨ r = .dataR ∨ (∃ i, r = .digest i) ∨ (∃ i, r = .p i) ∨ ∃ k j, r = .s k j) →
      memRead (regOffset r) s = (Config.draw s.draws, { s with draws := s.draws + 1 })) ∧
  (∀ (s : State) (r : Reg), Idle s → s.status.tv = false → ((∃ i, r = .p i) ∨ ∃ k j, r = .s k j) →
      memRead (regOffset r) s = (Config.draw s.draws, { s with draws := s.draws + 1 })) ∧
  (∀ s : State, memRead 0x0000 s = (s.cmd, s) ∧ memRead 0x0004 s = (statusWord s.status, s) ∧
    memRead 0x0008 s = (s.keyLen.setWidth 32, s) ∧ memRead 0x000C s = (s.saltLen.setWidth 32, s) ∧
    (∀ i : Fin 18, memRead (0x0040 + 4 * i.val) s = (s.key[i], s)) ∧
    (∀ i : Fin 4, memRead (0x00C0 + 4 * i.val) s = (s.salt[i], s)))

/-- R53, R30: while idle DATA and DIGEST read their values, with DIGEST[5] bits 7:0 as 0 (log 12), and with TV = 1 so do P and
S. -/
def Obligations.IdleReadsReturnResults : Prop :=
  (∀ s : State, Idle s → memRead 0x0010 s = (s.dataL, s) ∧ memRead 0x0014 s = (s.dataR, s) ∧
    (∀ i : Fin 5, memRead (0x0100 + 4 * i.val) s = (s.digest[i.val], s)) ∧
    memRead 0x0114 s = (s.digest[5] &&& 0xFFFFFF00, s)) ∧
  (∀ s : State, Idle s → s.status.tv = true → (∀ i : Fin 18, memRead (0x1000 + 4 * i.val) s = (s.tables.p[i], s)) ∧
    (∀ (k : Fin 4) (j : Fin 256), memRead (0x2000 + 0x400 * k.val + 4 * j.val) s = (s.tables.s[k][j], s)))

/-- R32: where the fields of STATUS stand in the word the host reads; reserved bits read as 0 and codes above 4 are never read
(R201). -/
def Obligations.StatusWordLayout : Prop :=
  ∀ st : Status, (statusWord st).getLsbD 0 = st.busy ∧ (statusWord st).getLsbD 1 = st.done ∧
    (statusWord st).getLsbD 2 = st.err ∧ (statusWord st).getLsbD 3 = st.overrun ∧ (statusWord st).getLsbD 4 = st.tv ∧
    (statusWord st).extractLsb' 5 3 = 0 ∧ (statusWord st).extractLsb' 8 4 = errNumber st.errCode ∧
    (statusWord st).extractLsb' 12 20 = 0 ∧ (errNumber st.errCode).toNat ≤ 4

/-- R59: a step is refused exactly when the host moves and its next access has another width than 32 bits, an offset that is no
multiple of 4, or an offset of 0x4000 or more. -/
def Obligations.OnlyBadAccessesAreRefused : Prop :=
  ∀ s : State, (∃ r, step s = .refused r) ↔
    turnOf s = .host ∧ ∃ off width rest,
      ((∃ v, s.program = .wr off width v :: rest) ∨ s.program = .rd off width :: rest) ∧
        (width ≠ .w32 ∨ off % 4 ≠ 0 ∨ 0x4000 ≤ off)

/-- R60: a read changes no state of the block: it only takes the host's statement, hands the host a word and may count a draw. -/
def Obligations.ReadsHaveNoSideEffect : Prop :=
  ∀ (s : State) (off : Nat) (rest : List HostStmt), turnOf s = .host → s.program = .rd off .w32 :: rest →
    off % 4 = 0 → off ≤ 0x3FFC → ∃ v d, (d = s.draws ∨ d = s.draws + 1) ∧
      step s = .next { s with turns := s.turns.tail, program := rest, received := v :: s.received, draws := d }

/-! ### Whole-machine rules (spec/10_state.md R20 to R37; spec/20_memory.md R56, R65) -/

/-- R35: TV is set only by the engine step that completes INIT or EKS, and cleared only by reset. -/
def Obligations.TablesValidChangesOnlyBy : Prop :=
  ∀ s t : State, step s = .next t → t.status.tv ≠ s.status.tv →
    (turnOf s = .reset ∧ t.status.tv = false) ∨
    (turnOf s = .engine ∧ s.status.busy = true ∧ (s.seq.op = .init ∨ s.seq.op = .eks) ∧ t.status.tv = true ∧
      t.status.busy = false ∧ t.status.done = true)

/-- R21, R22: P and S are written only by engine steps of INIT, EXPAND and EKS, and by reset. -/
def Obligations.TablesAreWrittenOnlyBy : Prop :=
  ∀ s t : State, step s = .next t → t.tables ≠ s.tables →
    turnOf s = .reset ∨ (turnOf s = .engine ∧ s.status.busy = true ∧
      (s.seq.op = .init ∨ s.seq.op = .expand ∨ s.seq.op = .eks))

/-- R25, R30: DATA is written only by an idle host write, by ENCRYPT's completion and by reset; DIGEST only by DIGEST's
completion and by reset. -/
def Obligations.ResultsAreWrittenOnlyBy : Prop :=
  ∀ s t : State, step s = .next t →
    (t.dataL ≠ s.dataL → turnOf s = .reset ∨ (turnOf s = .engine ∧ s.status.busy = true ∧ s.seq.op = .encrypt ∧
        t.status.done = true) ∨
      (turnOf s = .host ∧ Idle s ∧ ∃ rest, s.program = .wr 0x0010 .w32 t.dataL :: rest)) ∧
    (t.dataR ≠ s.dataR → turnOf s = .reset ∨ (turnOf s = .engine ∧ s.status.busy = true ∧ s.seq.op = .encrypt ∧
        t.status.done = true) ∨
      (turnOf s = .host ∧ Idle s ∧ ∃ rest, s.program = .wr 0x0014 .w32 t.dataR :: rest)) ∧
    (t.digest ≠ s.digest → turnOf s = .reset ∨ (turnOf s = .engine ∧ s.status.busy = true ∧ s.seq.op = .digest ∧
        t.status.done = true))

/-- R65, R251: while BUSY = 1 no step but a reset changes KEY, KEYLEN, SALT, SALTLEN or CMD. -/
def Obligations.InputsAreStableWhileBusy : Prop :=
  ∀ s t : State, s.status.busy = true → turnOf s ≠ .reset → step s = .next t →
    t.key = s.key ∧ t.keyLen = s.keyLen ∧ t.salt = s.salt ∧ t.saltLen = s.saltLen ∧ t.cmd = s.cmd

/-- R33: BUSY is set only by the acceptance of a legal command word, and cleared only by a completing engine step, which sets
DONE, or by reset. -/
def Obligations.BusyChangesOnlyBy : Prop :=
  ∀ s t : State, step s = .next t →
    (s.status.busy = true → t.status.busy = false →
      turnOf s = .reset ∨ (turnOf s = .engine ∧ t.status.done = true)) ∧
    (s.status.busy = false → t.status.busy = true →
      turnOf s = .host ∧ ∃ w rest i, s.program = .wr 0x0000 .w32 w :: rest ∧ decode w = .command i ∧ i ≠ .nop ∧ t.cmd = w)

/-- R37: what a step does to OVERRUN. A dropped write to a register other than STATUS while BUSY = 1 sets it; a write of bit
3 = 1 to STATUS clears it, busy or idle; a reset clears it; every other step leaves it as it is. -/
def Obligations.OverrunIsSticky : Prop :=
  ∀ s t : State, step s = .next t →
    (turnOf s = .host → s.status.busy = true → ∀ off v rest, s.program = .wr off .w32 v :: rest → off ≠ 0x0004 →
      t.status.overrun = true) ∧
    (turnOf s = .host → ∀ v rest, s.program = .wr 0x0004 .w32 v :: rest →
      t.status.overrun = if v.getLsbD 3 then false else s.status.overrun) ∧
    (turnOf s = .reset → t.status.overrun = false) ∧
    (turnOf s ≠ .reset →
      ¬(turnOf s = .host ∧ s.status.busy = true ∧ ∃ off v rest, s.program = .wr off .w32 v :: rest ∧ off ≠ 0x0004) →
      ¬(turnOf s = .host ∧ ∃ v rest, s.program = .wr 0x0004 .w32 v :: rest ∧ v.getLsbD 3 = true) →
      t.status.overrun = s.status.overrun)

/-- R56: no host access changes P, S, TV or DIGEST; BUSY, DONE, ERR, ERRCODE, CMD and the sequencer change in a host step only
where it writes CMD. -/
def Obligations.HostWritesNoResult : Prop :=
  ∀ s t : State, turnOf s = .host → step s = .next t →
    t.tables = s.tables ∧ t.status.tv = s.status.tv ∧ t.digest = s.digest ∧
    ((∀ w rest, s.program ≠ .wr 0x0000 .w32 w :: rest) →
      t.status.busy = s.status.busy ∧ t.status.done = s.status.done ∧ t.status.err = s.status.err ∧
        t.status.errCode = s.status.errCode ∧ t.cmd = s.cmd ∧ t.seq = s.seq)

/-- R38, R251: while BUSY = 1 the host sees nothing of P, S, DATA, DIGEST or the sequencer: from two states that differ only
there, its step does and shows the same. -/
def Obligations.HostSeesNothingOfRunningCommand : Prop :=
  ∀ s s' t : State, s.status.busy = true → turnOf s = .host → sameToHost s s' → step s = .next t →
    ∃ t', step s' = .next t' ∧ sameToHost t t'

/-- R153, R62: while a command runs on, a host step and an engine step in either order give the same state: the command's
result does not depend on the host's accesses between its steps. -/
def Obligations.HostStepCommutesWithEngineStep : Prop :=
  ∀ s t : State, s.status.busy = true → (engineStep s).status.busy = true → hostStep s = .next t →
    hostStep (engineStep s) = .next (engineStep t)

/-- R252, R243: a host that only polls STATUS while BUSY = 1, and reads the tables only while TV = 1, is never refused, never
reads a draw and never loses a write. -/
def Obligations.DisciplinedHostLosesNothing : Prop :=
  ∀ s : State, disciplined s = true → ∃ t, step s = .next t ∧ t.draws = s.draws ∧
    (t.status.overrun = true → s.status.overrun = true)

/-! ### Reset, invariant, progress (spec/10_state.md R42; spec/70_reset_and_hazards.md R240, R262) -/

/-- R240 with R42: a reset, busy or idle, is one step that sets every host register and STATUS to 0, abandons the command in
progress (no DONE) and leaves P, S and the sequencer's fields open (logs 2, 3). `State.reset` holds the same values. Beyond the
spec, by the model's choice, a reset keeps the host's program, the remaining turns, the received words and the draw count
(log 9), and `State.reset` holds no program, no turn, no received word and draw count 0 (logs 1, 4, 5). -/
def Obligations.ResetIsOneEvent : Prop :=
  (∀ s : State, turnOf s = .reset → ∃ tables q, step s = .next
    { tables := tables, dataL := 0, dataR := 0, key := Vector.replicate 18 0, keyLen := 0, salt := Vector.replicate 4 0,
      saltLen := 0, digest := Vector.replicate 6 0, cmd := 0,
      status := { busy := false, done := false, err := false, overrun := false, tv := false, errCode := .noError },
      seq := q, program := s.program, turns := s.turns.tail, received := s.received, draws := s.draws }) ∧
  (∃ tables q, State.reset =
    { tables := tables, dataL := 0, dataR := 0, key := Vector.replicate 18 0, keyLen := 0, salt := Vector.replicate 4 0,
      saltLen := 0, digest := Vector.replicate 6 0, cmd := 0,
      status := { busy := false, done := false, err := false, overrun := false, tv := false, errCode := .noError },
      seq := q, program := [], turns := [], received := [], draws := 0 })

/-- The invariant `blockInv` (R30, R32, R38; legal STATUS, a legal position of a command that passed its checks, the 24th digest
byte 0) holds at reset. -/
def Obligations.ResetMeetsInvariant : Prop := blockInv State.reset = true

/-- Every step, of the host, of the engine or a reset, keeps the invariant `blockInv`. -/
def Obligations.EveryStepKeepsInvariant : Prop :=
  ∀ s t : State, blockInv s = true → step s = .next t → blockInv t = true

/-- R262, R206: from a busy state that meets the invariant, with no turn scheduled, so that the engine moves (log 1), the machine
reaches a completed command: BUSY = 0, DONE = 1, no error. -/
def Obligations.BusyCommandCompletes : Prop :=
  ∀ s : State, blockInv s = true → s.status.busy = true → s.turns = [] →
    ∃ n t, Host.Core.run Sys2Proof.core n s = .next t ∧ t.status.busy = false ∧ t.status.done = true ∧
      t.status.err = false
end

