-- ==== Sys2Proof/Laws/State.lean ====
section
/-! SUPPORT. One lemma per field per update of the state, each true by rfl: a later proof rewrites with these and unfolds no
record update. -/

namespace Sys2Proof.Machine

@[simp] theorem acceptWord_tables (w : Word) (s : State) : (acceptWord w s).tables = s.tables := rfl
@[simp] theorem acceptWord_dataL (w : Word) (s : State) : (acceptWord w s).dataL = s.dataL := rfl
@[simp] theorem acceptWord_dataR (w : Word) (s : State) : (acceptWord w s).dataR = s.dataR := rfl
@[simp] theorem acceptWord_key (w : Word) (s : State) : (acceptWord w s).key = s.key := rfl
@[simp] theorem acceptWord_keyLen (w : Word) (s : State) : (acceptWord w s).keyLen = s.keyLen := rfl
@[simp] theorem acceptWord_salt (w : Word) (s : State) : (acceptWord w s).salt = s.salt := rfl
@[simp] theorem acceptWord_saltLen (w : Word) (s : State) : (acceptWord w s).saltLen = s.saltLen := rfl
@[simp] theorem acceptWord_digest (w : Word) (s : State) : (acceptWord w s).digest = s.digest := rfl
@[simp] theorem acceptWord_cmd (w : Word) (s : State) : (acceptWord w s).cmd = w := rfl
@[simp] theorem acceptWord_status (w : Word) (s : State) : (acceptWord w s).status = { s.status with done := false, err := false, errCode := .noError } := rfl
@[simp] theorem acceptWord_seq (w : Word) (s : State) : (acceptWord w s).seq = s.seq := rfl
@[simp] theorem acceptWord_program (w : Word) (s : State) : (acceptWord w s).program = s.program := rfl
@[simp] theorem acceptWord_turns (w : Word) (s : State) : (acceptWord w s).turns = s.turns := rfl
@[simp] theorem acceptWord_received (w : Word) (s : State) : (acceptWord w s).received = s.received := rfl
@[simp] theorem acceptWord_draws (w : Word) (s : State) : (acceptWord w s).draws = s.draws := rfl

@[simp] theorem failCommand_tables (c : ErrCode) (s : State) : (failCommand c s).tables = s.tables := rfl
@[simp] theorem failCommand_dataL (c : ErrCode) (s : State) : (failCommand c s).dataL = s.dataL := rfl
@[simp] theorem failCommand_dataR (c : ErrCode) (s : State) : (failCommand c s).dataR = s.dataR := rfl
@[simp] theorem failCommand_key (c : ErrCode) (s : State) : (failCommand c s).key = s.key := rfl
@[simp] theorem failCommand_keyLen (c : ErrCode) (s : State) : (failCommand c s).keyLen = s.keyLen := rfl
@[simp] theorem failCommand_salt (c : ErrCode) (s : State) : (failCommand c s).salt = s.salt := rfl
@[simp] theorem failCommand_saltLen (c : ErrCode) (s : State) : (failCommand c s).saltLen = s.saltLen := rfl
@[simp] theorem failCommand_digest (c : ErrCode) (s : State) : (failCommand c s).digest = s.digest := rfl
@[simp] theorem failCommand_cmd (c : ErrCode) (s : State) : (failCommand c s).cmd = s.cmd := rfl
@[simp] theorem failCommand_status (c : ErrCode) (s : State) : (failCommand c s).status = { s.status with err := true, errCode := c, done := true } := rfl
@[simp] theorem failCommand_seq (c : ErrCode) (s : State) : (failCommand c s).seq = s.seq := rfl
@[simp] theorem failCommand_program (c : ErrCode) (s : State) : (failCommand c s).program = s.program := rfl
@[simp] theorem failCommand_turns (c : ErrCode) (s : State) : (failCommand c s).turns = s.turns := rfl
@[simp] theorem failCommand_received (c : ErrCode) (s : State) : (failCommand c s).received = s.received := rfl
@[simp] theorem failCommand_draws (c : ErrCode) (s : State) : (failCommand c s).draws = s.draws := rfl

@[simp] theorem completeCommand_tables (b : Bool) (s : State) : (completeCommand b s).tables = s.tables := rfl
@[simp] theorem completeCommand_dataL (b : Bool) (s : State) : (completeCommand b s).dataL = s.dataL := rfl
@[simp] theorem completeCommand_dataR (b : Bool) (s : State) : (completeCommand b s).dataR = s.dataR := rfl
@[simp] theorem completeCommand_key (b : Bool) (s : State) : (completeCommand b s).key = s.key := rfl
@[simp] theorem completeCommand_keyLen (b : Bool) (s : State) : (completeCommand b s).keyLen = s.keyLen := rfl
@[simp] theorem completeCommand_salt (b : Bool) (s : State) : (completeCommand b s).salt = s.salt := rfl
@[simp] theorem completeCommand_saltLen (b : Bool) (s : State) : (completeCommand b s).saltLen = s.saltLen := rfl
@[simp] theorem completeCommand_digest (b : Bool) (s : State) : (completeCommand b s).digest = s.digest := rfl
@[simp] theorem completeCommand_cmd (b : Bool) (s : State) : (completeCommand b s).cmd = s.cmd := rfl
@[simp] theorem completeCommand_status (b : Bool) (s : State) : (completeCommand b s).status = ⟨false, true, false, s.status.overrun, b || s.status.tv, .noError⟩ := rfl
@[simp] theorem completeCommand_seq (b : Bool) (s : State) : (completeCommand b s).seq = s.seq := rfl
@[simp] theorem completeCommand_program (b : Bool) (s : State) : (completeCommand b s).program = s.program := rfl
@[simp] theorem completeCommand_turns (b : Bool) (s : State) : (completeCommand b s).turns = s.turns := rfl
@[simp] theorem completeCommand_received (b : Bool) (s : State) : (completeCommand b s).received = s.received := rfl
@[simp] theorem completeCommand_draws (b : Bool) (s : State) : (completeCommand b s).draws = s.draws := rfl

@[simp] theorem setBusy_tables (s : State) : (setBusy s).tables = s.tables := rfl
@[simp] theorem setBusy_dataL (s : State) : (setBusy s).dataL = s.dataL := rfl
@[simp] theorem setBusy_dataR (s : State) : (setBusy s).dataR = s.dataR := rfl
@[simp] theorem setBusy_key (s : State) : (setBusy s).key = s.key := rfl
@[simp] theorem setBusy_keyLen (s : State) : (setBusy s).keyLen = s.keyLen := rfl
@[simp] theorem setBusy_salt (s : State) : (setBusy s).salt = s.salt := rfl
@[simp] theorem setBusy_saltLen (s : State) : (setBusy s).saltLen = s.saltLen := rfl
@[simp] theorem setBusy_digest (s : State) : (setBusy s).digest = s.digest := rfl
@[simp] theorem setBusy_cmd (s : State) : (setBusy s).cmd = s.cmd := rfl
@[simp] theorem setBusy_status (s : State) : (setBusy s).status = { s.status with busy := true } := rfl
@[simp] theorem setBusy_seq (s : State) : (setBusy s).seq = s.seq := rfl
@[simp] theorem setBusy_program (s : State) : (setBusy s).program = s.program := rfl
@[simp] theorem setBusy_turns (s : State) : (setBusy s).turns = s.turns := rfl
@[simp] theorem setBusy_received (s : State) : (setBusy s).received = s.received := rfl
@[simp] theorem setBusy_draws (s : State) : (setBusy s).draws = s.draws := rfl

@[simp] theorem dropWrite_tables (s : State) : (dropWrite s).tables = s.tables := rfl
@[simp] theorem dropWrite_dataL (s : State) : (dropWrite s).dataL = s.dataL := rfl
@[simp] theorem dropWrite_dataR (s : State) : (dropWrite s).dataR = s.dataR := rfl
@[simp] theorem dropWrite_key (s : State) : (dropWrite s).key = s.key := rfl
@[simp] theorem dropWrite_keyLen (s : State) : (dropWrite s).keyLen = s.keyLen := rfl
@[simp] theorem dropWrite_salt (s : State) : (dropWrite s).salt = s.salt := rfl
@[simp] theorem dropWrite_saltLen (s : State) : (dropWrite s).saltLen = s.saltLen := rfl
@[simp] theorem dropWrite_digest (s : State) : (dropWrite s).digest = s.digest := rfl
@[simp] theorem dropWrite_cmd (s : State) : (dropWrite s).cmd = s.cmd := rfl
@[simp] theorem dropWrite_status (s : State) : (dropWrite s).status = { s.status with overrun := true } := rfl
@[simp] theorem dropWrite_seq (s : State) : (dropWrite s).seq = s.seq := rfl
@[simp] theorem dropWrite_program (s : State) : (dropWrite s).program = s.program := rfl
@[simp] theorem dropWrite_turns (s : State) : (dropWrite s).turns = s.turns := rfl
@[simp] theorem dropWrite_received (s : State) : (dropWrite s).received = s.received := rfl
@[simp] theorem dropWrite_draws (s : State) : (dropWrite s).draws = s.draws := rfl

@[simp] theorem startInit_tables (s : State) : (startInit s).tables = s.tables := rfl
@[simp] theorem startInit_dataL (s : State) : (startInit s).dataL = s.dataL := rfl
@[simp] theorem startInit_dataR (s : State) : (startInit s).dataR = s.dataR := rfl
@[simp] theorem startInit_key (s : State) : (startInit s).key = s.key := rfl
@[simp] theorem startInit_keyLen (s : State) : (startInit s).keyLen = s.keyLen := rfl
@[simp] theorem startInit_salt (s : State) : (startInit s).salt = s.salt := rfl
@[simp] theorem startInit_saltLen (s : State) : (startInit s).saltLen = s.saltLen := rfl
@[simp] theorem startInit_digest (s : State) : (startInit s).digest = s.digest := rfl
@[simp] theorem startInit_cmd (s : State) : (startInit s).cmd = s.cmd := rfl
@[simp] theorem startInit_status (s : State) : (startInit s).status = { s.status with busy := true } := rfl
@[simp] theorem startInit_seq (s : State) : (startInit s).seq = { s.seq with op := .init } := rfl
@[simp] theorem startInit_program (s : State) : (startInit s).program = s.program := rfl
@[simp] theorem startInit_turns (s : State) : (startInit s).turns = s.turns := rfl
@[simp] theorem startInit_received (s : State) : (startInit s).received = s.received := rfl
@[simp] theorem startInit_draws (s : State) : (startInit s).draws = s.draws := rfl

@[simp] theorem startExpand_tables (k : KeySrc) (z : SaltSrc) (s : State) : (startExpand k z s).tables = s.tables := rfl
@[simp] theorem startExpand_dataL (k : KeySrc) (z : SaltSrc) (s : State) : (startExpand k z s).dataL = s.dataL := rfl
@[simp] theorem startExpand_dataR (k : KeySrc) (z : SaltSrc) (s : State) : (startExpand k z s).dataR = s.dataR := rfl
@[simp] theorem startExpand_key (k : KeySrc) (z : SaltSrc) (s : State) : (startExpand k z s).key = s.key := rfl
@[simp] theorem startExpand_keyLen (k : KeySrc) (z : SaltSrc) (s : State) : (startExpand k z s).keyLen = s.keyLen := rfl
@[simp] theorem startExpand_salt (k : KeySrc) (z : SaltSrc) (s : State) : (startExpand k z s).salt = s.salt := rfl
@[simp] theorem startExpand_saltLen (k : KeySrc) (z : SaltSrc) (s : State) : (startExpand k z s).saltLen = s.saltLen := rfl
@[simp] theorem startExpand_digest (k : KeySrc) (z : SaltSrc) (s : State) : (startExpand k z s).digest = s.digest := rfl
@[simp] theorem startExpand_cmd (k : KeySrc) (z : SaltSrc) (s : State) : (startExpand k z s).cmd = s.cmd := rfl
@[simp] theorem startExpand_status (k : KeySrc) (z : SaltSrc) (s : State) : (startExpand k z s).status = { s.status with busy := true } := rfl
@[simp] theorem startExpand_seq (k : KeySrc) (z : SaltSrc) (s : State) : (startExpand k z s).seq = startExpansion k z { s.seq with op := .expand } := rfl
@[simp] theorem startExpand_program (k : KeySrc) (z : SaltSrc) (s : State) : (startExpand k z s).program = s.program := rfl
@[simp] theorem startExpand_turns (k : KeySrc) (z : SaltSrc) (s : State) : (startExpand k z s).turns = s.turns := rfl
@[simp] theorem startExpand_received (k : KeySrc) (z : SaltSrc) (s : State) : (startExpand k z s).received = s.received := rfl
@[simp] theorem startExpand_draws (k : KeySrc) (z : SaltSrc) (s : State) : (startExpand k z s).draws = s.draws := rfl

@[simp] theorem startEks_tables (c : BitVec 5) (s : State) : (startEks c s).tables = s.tables := rfl
@[simp] theorem startEks_dataL (c : BitVec 5) (s : State) : (startEks c s).dataL = s.dataL := rfl
@[simp] theorem startEks_dataR (c : BitVec 5) (s : State) : (startEks c s).dataR = s.dataR := rfl
@[simp] theorem startEks_key (c : BitVec 5) (s : State) : (startEks c s).key = s.key := rfl
@[simp] theorem startEks_keyLen (c : BitVec 5) (s : State) : (startEks c s).keyLen = s.keyLen := rfl
@[simp] theorem startEks_salt (c : BitVec 5) (s : State) : (startEks c s).salt = s.salt := rfl
@[simp] theorem startEks_saltLen (c : BitVec 5) (s : State) : (startEks c s).saltLen = s.saltLen := rfl
@[simp] theorem startEks_digest (c : BitVec 5) (s : State) : (startEks c s).digest = s.digest := rfl
@[simp] theorem startEks_cmd (c : BitVec 5) (s : State) : (startEks c s).cmd = s.cmd := rfl
@[simp] theorem startEks_status (c : BitVec 5) (s : State) : (startEks c s).status = { s.status with busy := true } := rfl
@[simp] theorem startEks_seq (c : BitVec 5) (s : State) : (startEks c s).seq = { s.seq with op := .eks, cost := c, stage := .s1 } := rfl
@[simp] theorem startEks_program (c : BitVec 5) (s : State) : (startEks c s).program = s.program := rfl
@[simp] theorem startEks_turns (c : BitVec 5) (s : State) : (startEks c s).turns = s.turns := rfl
@[simp] theorem startEks_received (c : BitVec 5) (s : State) : (startEks c s).received = s.received := rfl
@[simp] theorem startEks_draws (c : BitVec 5) (s : State) : (startEks c s).draws = s.draws := rfl

@[simp] theorem startEncrypt_tables (s : State) : (startEncrypt s).tables = s.tables := rfl
@[simp] theorem startEncrypt_dataL (s : State) : (startEncrypt s).dataL = s.dataL := rfl
@[simp] theorem startEncrypt_dataR (s : State) : (startEncrypt s).dataR = s.dataR := rfl
@[simp] theorem startEncrypt_key (s : State) : (startEncrypt s).key = s.key := rfl
@[simp] theorem startEncrypt_keyLen (s : State) : (startEncrypt s).keyLen = s.keyLen := rfl
@[simp] theorem startEncrypt_salt (s : State) : (startEncrypt s).salt = s.salt := rfl
@[simp] theorem startEncrypt_saltLen (s : State) : (startEncrypt s).saltLen = s.saltLen := rfl
@[simp] theorem startEncrypt_digest (s : State) : (startEncrypt s).digest = s.digest := rfl
@[simp] theorem startEncrypt_cmd (s : State) : (startEncrypt s).cmd = s.cmd := rfl
@[simp] theorem startEncrypt_status (s : State) : (startEncrypt s).status = { s.status with busy := true } := rfl
@[simp] theorem startEncrypt_seq (s : State) : (startEncrypt s).seq = { s.seq with op := .encrypt } := rfl
@[simp] theorem startEncrypt_program (s : State) : (startEncrypt s).program = s.program := rfl
@[simp] theorem startEncrypt_turns (s : State) : (startEncrypt s).turns = s.turns := rfl
@[simp] theorem startEncrypt_received (s : State) : (startEncrypt s).received = s.received := rfl
@[simp] theorem startEncrypt_draws (s : State) : (startEncrypt s).draws = s.draws := rfl

@[simp] theorem startDigest_tables (s : State) : (startDigest s).tables = s.tables := rfl
@[simp] theorem startDigest_dataL (s : State) : (startDigest s).dataL = s.dataL := rfl
@[simp] theorem startDigest_dataR (s : State) : (startDigest s).dataR = s.dataR := rfl
@[simp] theorem startDigest_key (s : State) : (startDigest s).key = s.key := rfl
@[simp] theorem startDigest_keyLen (s : State) : (startDigest s).keyLen = s.keyLen := rfl
@[simp] theorem startDigest_salt (s : State) : (startDigest s).salt = s.salt := rfl
@[simp] theorem startDigest_saltLen (s : State) : (startDigest s).saltLen = s.saltLen := rfl
@[simp] theorem startDigest_digest (s : State) : (startDigest s).digest = s.digest := rfl
@[simp] theorem startDigest_cmd (s : State) : (startDigest s).cmd = s.cmd := rfl
@[simp] theorem startDigest_status (s : State) : (startDigest s).status = { s.status with busy := true } := rfl
@[simp] theorem startDigest_seq (s : State) : (startDigest s).seq = { s.seq with op := .digest, dpass := 0, dblk := 0, dw := ctext } := rfl
@[simp] theorem startDigest_program (s : State) : (startDigest s).program = s.program := rfl
@[simp] theorem startDigest_turns (s : State) : (startDigest s).turns = s.turns := rfl
@[simp] theorem startDigest_received (s : State) : (startDigest s).received = s.received := rfl
@[simp] theorem startDigest_draws (s : State) : (startDigest s).draws = s.draws := rfl

@[simp] theorem keyXorStep_tables (i : Fin 18) (s : State) : (keyXorStep i s).tables = xorSubkey i (streamWord (keyOperand s.seq.ksrc s) s.seq.ko).1 s.tables := rfl
@[simp] theorem keyXorStep_dataL (i : Fin 18) (s : State) : (keyXorStep i s).dataL = s.dataL := rfl
@[simp] theorem keyXorStep_dataR (i : Fin 18) (s : State) : (keyXorStep i s).dataR = s.dataR := rfl
@[simp] theorem keyXorStep_key (i : Fin 18) (s : State) : (keyXorStep i s).key = s.key := rfl
@[simp] theorem keyXorStep_keyLen (i : Fin 18) (s : State) : (keyXorStep i s).keyLen = s.keyLen := rfl
@[simp] theorem keyXorStep_salt (i : Fin 18) (s : State) : (keyXorStep i s).salt = s.salt := rfl
@[simp] theorem keyXorStep_saltLen (i : Fin 18) (s : State) : (keyXorStep i s).saltLen = s.saltLen := rfl
@[simp] theorem keyXorStep_digest (i : Fin 18) (s : State) : (keyXorStep i s).digest = s.digest := rfl
@[simp] theorem keyXorStep_cmd (i : Fin 18) (s : State) : (keyXorStep i s).cmd = s.cmd := rfl
@[simp] theorem keyXorStep_status (i : Fin 18) (s : State) : (keyXorStep i s).status = s.status := rfl
@[simp] theorem keyXorStep_seq (i : Fin 18) (s : State) : (keyXorStep i s).seq = { s.seq with ko := s.seq.ko + 4, phase := nextKeyWord i } := rfl
@[simp] theorem keyXorStep_program (i : Fin 18) (s : State) : (keyXorStep i s).program = s.program := rfl
@[simp] theorem keyXorStep_turns (i : Fin 18) (s : State) : (keyXorStep i s).turns = s.turns := rfl
@[simp] theorem keyXorStep_received (i : Fin 18) (s : State) : (keyXorStep i s).received = s.received := rfl
@[simp] theorem keyXorStep_draws (i : Fin 18) (s : State) : (keyXorStep i s).draws = s.draws := rfl

@[simp] theorem encryptPairStep_tables (n : Fin 521) (s : State) : (encryptPairStep n s).tables = (encryptPair (saltOperand s.seq.ssrc s) ⟨s.tables, s.seq.block, s.seq.so⟩ n).tables := rfl
@[simp] theorem encryptPairStep_dataL (n : Fin 521) (s : State) : (encryptPairStep n s).dataL = s.dataL := rfl
@[simp] theorem encryptPairStep_dataR (n : Fin 521) (s : State) : (encryptPairStep n s).dataR = s.dataR := rfl
@[simp] theorem encryptPairStep_key (n : Fin 521) (s : State) : (encryptPairStep n s).key = s.key := rfl
@[simp] theorem encryptPairStep_keyLen (n : Fin 521) (s : State) : (encryptPairStep n s).keyLen = s.keyLen := rfl
@[simp] theorem encryptPairStep_salt (n : Fin 521) (s : State) : (encryptPairStep n s).salt = s.salt := rfl
@[simp] theorem encryptPairStep_saltLen (n : Fin 521) (s : State) : (encryptPairStep n s).saltLen = s.saltLen := rfl
@[simp] theorem encryptPairStep_digest (n : Fin 521) (s : State) : (encryptPairStep n s).digest = s.digest := rfl
@[simp] theorem encryptPairStep_cmd (n : Fin 521) (s : State) : (encryptPairStep n s).cmd = s.cmd := rfl
@[simp] theorem encryptPairStep_status (n : Fin 521) (s : State) : (encryptPairStep n s).status = s.status := rfl
@[simp] theorem encryptPairStep_seq (n : Fin 521) (s : State) : (encryptPairStep n s).seq = { s.seq with
        block := (encryptPair (saltOperand s.seq.ssrc s) ⟨s.tables, s.seq.block, s.seq.so⟩ n).block, so := s.seq.so + 8,
        phase := nextPair n } := rfl
@[simp] theorem encryptPairStep_program (n : Fin 521) (s : State) : (encryptPairStep n s).program = s.program := rfl
@[simp] theorem encryptPairStep_turns (n : Fin 521) (s : State) : (encryptPairStep n s).turns = s.turns := rfl
@[simp] theorem encryptPairStep_received (n : Fin 521) (s : State) : (encryptPairStep n s).received = s.received := rfl
@[simp] theorem encryptPairStep_draws (n : Fin 521) (s : State) : (encryptPairStep n s).draws = s.draws := rfl

@[simp] theorem enterStage3_tables (s : State) : (enterStage3 s).tables = s.tables := rfl
@[simp] theorem enterStage3_dataL (s : State) : (enterStage3 s).dataL = s.dataL := rfl
@[simp] theorem enterStage3_dataR (s : State) : (enterStage3 s).dataR = s.dataR := rfl
@[simp] theorem enterStage3_key (s : State) : (enterStage3 s).key = s.key := rfl
@[simp] theorem enterStage3_keyLen (s : State) : (enterStage3 s).keyLen = s.keyLen := rfl
@[simp] theorem enterStage3_salt (s : State) : (enterStage3 s).salt = s.salt := rfl
@[simp] theorem enterStage3_saltLen (s : State) : (enterStage3 s).saltLen = s.saltLen := rfl
@[simp] theorem enterStage3_digest (s : State) : (enterStage3 s).digest = s.digest := rfl
@[simp] theorem enterStage3_cmd (s : State) : (enterStage3 s).cmd = s.cmd := rfl
@[simp] theorem enterStage3_status (s : State) : (enterStage3 s).status = s.status := rfl
@[simp] theorem enterStage3_seq (s : State) : (enterStage3 s).seq = startExpansion .keyBuffer .zero { s.seq with stage := .s3a, iter := 0 } := rfl
@[simp] theorem enterStage3_program (s : State) : (enterStage3 s).program = s.program := rfl
@[simp] theorem enterStage3_turns (s : State) : (enterStage3 s).turns = s.turns := rfl
@[simp] theorem enterStage3_received (s : State) : (enterStage3 s).received = s.received := rfl
@[simp] theorem enterStage3_draws (s : State) : (enterStage3 s).draws = s.draws := rfl

@[simp] theorem enterStage3b_tables (s : State) : (enterStage3b s).tables = s.tables := rfl
@[simp] theorem enterStage3b_dataL (s : State) : (enterStage3b s).dataL = s.dataL := rfl
@[simp] theorem enterStage3b_dataR (s : State) : (enterStage3b s).dataR = s.dataR := rfl
@[simp] theorem enterStage3b_key (s : State) : (enterStage3b s).key = s.key := rfl
@[simp] theorem enterStage3b_keyLen (s : State) : (enterStage3b s).keyLen = s.keyLen := rfl
@[simp] theorem enterStage3b_salt (s : State) : (enterStage3b s).salt = s.salt := rfl
@[simp] theorem enterStage3b_saltLen (s : State) : (enterStage3b s).saltLen = s.saltLen := rfl
@[simp] theorem enterStage3b_digest (s : State) : (enterStage3b s).digest = s.digest := rfl
@[simp] theorem enterStage3b_cmd (s : State) : (enterStage3b s).cmd = s.cmd := rfl
@[simp] theorem enterStage3b_status (s : State) : (enterStage3b s).status = s.status := rfl
@[simp] theorem enterStage3b_seq (s : State) : (enterStage3b s).seq = startExpansion .saltBuffer .zero { s.seq with stage := .s3b } := rfl
@[simp] theorem enterStage3b_program (s : State) : (enterStage3b s).program = s.program := rfl
@[simp] theorem enterStage3b_turns (s : State) : (enterStage3b s).turns = s.turns := rfl
@[simp] theorem enterStage3b_received (s : State) : (enterStage3b s).received = s.received := rfl
@[simp] theorem enterStage3b_draws (s : State) : (enterStage3b s).draws = s.draws := rfl

@[simp] theorem resetBlock_tables (s : State) : (resetBlock s).tables = State.reset.tables := rfl
@[simp] theorem resetBlock_dataL (s : State) : (resetBlock s).dataL = State.reset.dataL := rfl
@[simp] theorem resetBlock_dataR (s : State) : (resetBlock s).dataR = State.reset.dataR := rfl
@[simp] theorem resetBlock_key (s : State) : (resetBlock s).key = State.reset.key := rfl
@[simp] theorem resetBlock_keyLen (s : State) : (resetBlock s).keyLen = State.reset.keyLen := rfl
@[simp] theorem resetBlock_salt (s : State) : (resetBlock s).salt = State.reset.salt := rfl
@[simp] theorem resetBlock_saltLen (s : State) : (resetBlock s).saltLen = State.reset.saltLen := rfl
@[simp] theorem resetBlock_digest (s : State) : (resetBlock s).digest = State.reset.digest := rfl
@[simp] theorem resetBlock_cmd (s : State) : (resetBlock s).cmd = State.reset.cmd := rfl
@[simp] theorem resetBlock_status (s : State) : (resetBlock s).status = State.reset.status := rfl
@[simp] theorem resetBlock_seq (s : State) : (resetBlock s).seq = State.reset.seq := rfl
@[simp] theorem resetBlock_program (s : State) : (resetBlock s).program = s.program := rfl
@[simp] theorem resetBlock_turns (s : State) : (resetBlock s).turns = s.turns := rfl
@[simp] theorem resetBlock_received (s : State) : (resetBlock s).received = s.received := rfl
@[simp] theorem resetBlock_draws (s : State) : (resetBlock s).draws = s.draws := rfl

@[simp] theorem drawWord_value (s : State) : (drawWord s).1 = Config.draw s.draws := rfl
@[simp] theorem drawWord_tables (s : State) : (drawWord s).2.tables = s.tables := rfl
@[simp] theorem drawWord_dataL (s : State) : (drawWord s).2.dataL = s.dataL := rfl
@[simp] theorem drawWord_dataR (s : State) : (drawWord s).2.dataR = s.dataR := rfl
@[simp] theorem drawWord_key (s : State) : (drawWord s).2.key = s.key := rfl
@[simp] theorem drawWord_keyLen (s : State) : (drawWord s).2.keyLen = s.keyLen := rfl
@[simp] theorem drawWord_salt (s : State) : (drawWord s).2.salt = s.salt := rfl
@[simp] theorem drawWord_saltLen (s : State) : (drawWord s).2.saltLen = s.saltLen := rfl
@[simp] theorem drawWord_digest (s : State) : (drawWord s).2.digest = s.digest := rfl
@[simp] theorem drawWord_cmd (s : State) : (drawWord s).2.cmd = s.cmd := rfl
@[simp] theorem drawWord_status (s : State) : (drawWord s).2.status = s.status := rfl
@[simp] theorem drawWord_seq (s : State) : (drawWord s).2.seq = s.seq := rfl
@[simp] theorem drawWord_program (s : State) : (drawWord s).2.program = s.program := rfl
@[simp] theorem drawWord_turns (s : State) : (drawWord s).2.turns = s.turns := rfl
@[simp] theorem drawWord_received (s : State) : (drawWord s).2.received = s.received := rfl
@[simp] theorem drawWord_draws (s : State) : (drawWord s).2.draws = s.draws + 1 := rfl

@[simp] theorem startExpansion_op (k : KeySrc) (z : SaltSrc) (q : Sequencer) : (startExpansion k z q).op = q.op := rfl
@[simp] theorem startExpansion_cost (k : KeySrc) (z : SaltSrc) (q : Sequencer) : (startExpansion k z q).cost = q.cost := rfl
@[simp] theorem startExpansion_stage (k : KeySrc) (z : SaltSrc) (q : Sequencer) : (startExpansion k z q).stage = q.stage := rfl
@[simp] theorem startExpansion_iter (k : KeySrc) (z : SaltSrc) (q : Sequencer) : (startExpansion k z q).iter = q.iter := rfl
@[simp] theorem startExpansion_phase (k : KeySrc) (z : SaltSrc) (q : Sequencer) : (startExpansion k z q).phase = .keyXor 0 := rfl
@[simp] theorem startExpansion_ko (k : KeySrc) (z : SaltSrc) (q : Sequencer) : (startExpansion k z q).ko = 0 := rfl
@[simp] theorem startExpansion_so (k : KeySrc) (z : SaltSrc) (q : Sequencer) : (startExpansion k z q).so = 0 := rfl
@[simp] theorem startExpansion_block (k : KeySrc) (z : SaltSrc) (q : Sequencer) : (startExpansion k z q).block = ⟨0, 0⟩ := rfl
@[simp] theorem startExpansion_ksrc (k : KeySrc) (z : SaltSrc) (q : Sequencer) : (startExpansion k z q).ksrc = k := rfl
@[simp] theorem startExpansion_ssrc (k : KeySrc) (z : SaltSrc) (q : Sequencer) : (startExpansion k z q).ssrc = z := rfl
@[simp] theorem startExpansion_dpass (k : KeySrc) (z : SaltSrc) (q : Sequencer) : (startExpansion k z q).dpass = q.dpass := rfl
@[simp] theorem startExpansion_dblk (k : KeySrc) (z : SaltSrc) (q : Sequencer) : (startExpansion k z q).dblk = q.dblk := rfl
@[simp] theorem startExpansion_dw (k : KeySrc) (z : SaltSrc) (q : Sequencer) : (startExpansion k z q).dw = q.dw := rfl

@[simp] theorem streamWord_offset (b : List Byte) (off : Nat) : (streamWord b off).2 = off + 4 := rfl

@[simp] theorem xorSubkey_s (i : Fin 18) (w : Word) (t : Tables) : (xorSubkey i w t).s = t.s := rfl

end Sys2Proof.Machine
end

