-- ==== Sys2Proof/Laws/Ops.lean ====
section
/-! SUPPORT. One lemma per shared operation that says everything it can do: acceptance, the host's accesses, a turn, a step. -/

namespace Sys2Proof.Machine

/-- The sequencer start of a command that passed its checks; NOP completes instead. -/
def startOf : Instr → State → State
  | .nop => completeCommand false
  | .init => startInit
  | .expand k z => startExpand k z
  | .eks c => startEks c
  | .encrypt => startEncrypt
  | .digest => startDigest

theorem exec_eq_issue (i : Instr) (s : State) : exec i s = issueCommand i (startOf i) s := by
  cases i <;> rfl

theorem issueCommand_busy {i : Instr} {f : State → State} {s : State} (h : s.status.busy = true) :
    issueCommand i f s = .next (dropWrite s) := by
  simp [issueCommand, h]

theorem issueCommand_pass {i : Instr} {f : State → State} {s : State} (h : s.status.busy = false)
    (hc : check i s = .noError) : issueCommand i f s = .next (f (acceptWord (encode i) s)) := by
  simp [issueCommand, h, hc]

theorem issueCommand_fail {i : Instr} {f : State → State} {s : State} (h : s.status.busy = false)
    (hc : check i s ≠ .noError) :
    issueCommand i f s = .next (failCommand (check i s) (acceptWord (encode i) s)) := by
  cases hk : check i s <;> simp_all [issueCommand]

/-- Everything acceptance can do. -/
theorem issueCommand_cases {i : Instr} {f : State → State} {s t : State} (h : issueCommand i f s = .next t) :
    (s.status.busy = true ∧ t = dropWrite s) ∨
      (s.status.busy = false ∧ check i s = .noError ∧ t = f (acceptWord (encode i) s)) ∨
      (s.status.busy = false ∧ check i s ≠ .noError ∧ t = failCommand (check i s) (acceptWord (encode i) s)) := by
  by_cases hb : s.status.busy = true
  · rw [issueCommand_busy hb] at h
    exact .inl ⟨hb, by simpa using h.symm⟩
  · have hb : s.status.busy = false := by simpa using hb
    by_cases hc : check i s = .noError
    · rw [issueCommand_pass hb hc] at h
      exact .inr (.inl ⟨hb, hc, by simpa using h.symm⟩)
    · rw [issueCommand_fail hb hc] at h
      exact .inr (.inr ⟨hb, hc, by simpa using h.symm⟩)

/-- What a write to `CMD` can do while BUSY = 0. -/
theorem acceptCommand_cases {w : Word} {s t : State} (h : acceptCommand w s = .next t) :
    (∃ i, decode w = .command i ∧ exec i s = .next t) ∨ (decode w = .illegal ∧ t = rejectIllegal w s) := by
  unfold acceptCommand at h
  split at h
  · exact .inl ⟨_, ‹_›, h⟩
  · exact .inr ⟨‹_›, by simpa using h.symm⟩

/-- Everything a write that is not refused can do. -/
theorem memWrite_cases {off : Nat} {v : Word} {s t : State} (h : memWrite off v s = .next t) :
    (off = 4 ∧ t = writeStatus v s) ∨ (off ≠ 4 ∧ s.status.busy = true ∧ t = dropWrite s) ∨
      (off ≠ 4 ∧ s.status.busy = false ∧ regAt off = none ∧ t = s) ∨
      (off ≠ 4 ∧ s.status.busy = false ∧ ∃ r, regAt off = some r ∧ writeReg r v s = .next t) := by
  unfold memWrite at h
  split at h
  · exact .inl ⟨‹_›, by simpa using h.symm⟩
  · split at h
    · exact .inr (.inl ⟨‹_›, ‹_›, by simpa using h.symm⟩)
    · have hb : s.status.busy = false := by
        rename_i _ hb
        simpa using hb
      split at h
      · exact .inr (.inr (.inl ⟨‹_›, hb, ‹_›, by simpa using h.symm⟩))
      · exact .inr (.inr (.inr ⟨‹_›, hb, _, ‹_›, h⟩))

/-- A read that is not refused changes nothing but the draw count. -/
theorem memRead_state (off : Nat) (s : State) :
    (memRead off s).2 = s ∨ (memRead off s).2 = { s with draws := s.draws + 1 } := by
  unfold memRead
  split
  · exact .inl rfl
  · split
    · exact .inl rfl
    · exact .inr rfl

/-- Everything the host's next statement can do when it is not refused. -/
theorem hostStep_cases {s t : State} (h : hostStep s = .next t) :
    (s.program = [] ∧ t = s) ∨
      (∃ off v rest, s.program = .wr off .w32 v :: rest ∧ accessRefusal .w32 off = none ∧
        memWrite off v { s with program := rest } = .next t) ∨
      (∃ off rest, s.program = .rd off .w32 :: rest ∧ accessRefusal .w32 off = none ∧
        t = { (memRead off { s with program := rest }).2 with
          received := (memRead off { s with program := rest }).1 :: (memRead off { s with program := rest }).2.received }) ∨
      (∃ rest, s.program = .wait :: rest ∧
        t = if s.status.busy then s else { s with program := rest }) := by
  have wait_bit : (statusWord s.status).getLsbD 0 = s.status.busy := by
    unfold statusWord
    cases s.status.busy <;> cases s.status.done <;> cases s.status.err <;> cases s.status.overrun <;>
      cases s.status.tv <;> cases s.status.errCode <;> rfl
  unfold hostStep at h
  cases hp : s.program with
  | nil => rw [hp] at h; exact .inl ⟨rfl, by simpa using h.symm⟩
  | cons st rest =>
    rw [hp] at h
    cases st with
    | wr off width v =>
      simp only [hostStatement] at h
      split at h
      · cases h
      · have hw : width = .w32 := by
          by_contra hne
          simp_all [accessRefusal]
        subst hw
        exact .inr (.inl ⟨off, v, rest, rfl, ‹_›, h⟩)
    | rd off width =>
      simp only [hostStatement] at h
      split at h
      · cases h
      · have hw : width = .w32 := by
          by_contra hne
          simp_all [accessRefusal]
        subst hw
        exact .inr (.inr (.inl ⟨off, rest, rfl, ‹_›, by simpa using h.symm⟩))
    | wait =>
      simp only [hostStatement, wait_bit] at h
      refine .inr (.inr (.inr ⟨rest, rfl, ?_⟩))
      split at h <;> simp_all

theorem afterTurn_of_nil {s : State} (h : s.turns = []) : afterTurn s = s := by
  cases s
  simp_all [afterTurn]

/-- A step is one turn of the agent `turnOf` names. -/
theorem step_eq_takeTurn (s : State) : step s = takeTurn (turnOf s) (afterTurn s) := by
  unfold step nextTurn turnOf
  split
  · rename_i h
    simp [afterTurn_of_nil h, h]
  · rename_i t ts h
    simp [afterTurn, h]

/-- Everything a step can do when it is not refused. -/
theorem step_cases {s t : State} (h : step s = .next t) :
    (turnOf s = .host ∧ hostStep (afterTurn s) = .next t) ∨
      (turnOf s = .engine ∧ t = engineStep (afterTurn s)) ∨
      (turnOf s = .reset ∧ t = resetBlock (afterTurn s)) := by
  rw [step_eq_takeTurn] at h
  cases ht : turnOf s <;> simp only [ht, takeTurn] at h
  · exact .inl ⟨rfl, h⟩
  · exact .inr (.inl ⟨rfl, by simpa using h.symm⟩)
  · exact .inr (.inr ⟨rfl, by simpa using h.symm⟩)

theorem engineStep_idle {s : State} (h : s.status.busy = false) : engineStep s = s := by
  simp [engineStep, h]

end Sys2Proof.Machine
end

