-- ==== Sys2Proof/Laws/Expansion.lean ====
section
/-! SUPPORT. The expansion sub-machine of spec/42_key_schedule.md R152: 539 XSteps from `StartExpand` give `Expand` of R138. -/

namespace Sys2Proof.Machine

/-- One more element of a bounded loop. -/
theorem foldl_finRange_take_succ {α : Type} {n : Nat} (f : α → Fin n → α) (a : α) {k : Nat} (h : k < n) :
    ((List.finRange n).take (k + 1)).foldl f a = f (((List.finRange n).take k).foldl f a) ⟨k, h⟩ := by
  have hk : k < (List.finRange n).length := by simpa using h
  rw [List.take_succ_eq_append_getElem hk]
  simp

/-- The tables after the first `k` words of the key phase. -/
def keyPhaseTo (key : List Byte) (k : Nat) (t : Tables) : Tables :=
  ((List.finRange 18).take k).foldl (fun t i => xorSubkey i (streamWord key (4 * i.val)).1 t) t

/-- The running values after the first `k` pairs of the encryption phase. -/
def pairsTo (salt : List Byte) (k : Nat) (t : Tables) : Running :=
  ((List.finRange 521).take k).foldl (encryptPair salt) ⟨t, ⟨0, 0⟩, 0⟩

theorem keyPhaseTo_all (key : List Byte) (t : Tables) : keyPhaseTo key 18 t = keyPhase key t := by
  unfold keyPhaseTo keyPhase
  rw [List.take_of_length_le (by simp)]

theorem pairsTo_all (salt : List Byte) (t : Tables) : pairsTo salt 521 t = encryptPhase salt t := by
  unfold pairsTo encryptPhase
  rw [List.take_of_length_le (by simp)]

theorem keyPhaseTo_succ (key : List Byte) (t : Tables) {k : Nat} (h : k < 18) :
    keyPhaseTo key (k + 1) t = xorSubkey ⟨k, h⟩ (streamWord key (4 * k)).1 (keyPhaseTo key k t) :=
  foldl_finRange_take_succ _ _ h

theorem pairsTo_succ (salt : List Byte) (t : Tables) {k : Nat} (h : k < 521) :
    pairsTo salt (k + 1) t = encryptPair salt (pairsTo salt k t) ⟨k, h⟩ :=
  foldl_finRange_take_succ _ _ h

theorem pairsTo_so (salt : List Byte) (t : Tables) : ∀ k, k ≤ 521 → (pairsTo salt k t).so = 8 * k
  | 0, _ => rfl
  | k + 1, h => by
    have ih := pairsTo_so salt t k (by omega)
    rw [pairsTo_succ salt t (by omega)]
    show (pairsTo salt k t).so + 4 + 4 = _
    omega

/-- The position `k` of KEYXOR, or the start of ENCRYPT after word 17. -/
def keyPosition (k : Nat) : XPhase := if h : k < 18 then .keyXor ⟨k, h⟩ else .encrypt 0

/-- The operands of an expansion are read from KEY, KEYLEN, SALT and SALTLEN alone. -/
theorem keyOperand_tables_seq (k : KeySrc) (s : State) (t : Tables) (q : Sequencer) :
    keyOperand k { s with tables := t, seq := q } = keyOperand k s := by cases k <;> rfl

theorem saltOperand_tables_seq (z : SaltSrc) (s : State) (t : Tables) (q : Sequencer) :
    saltOperand z { s with tables := t, seq := q } = saltOperand z s := by cases z <;> rfl

theorem expansionStep_key_run (s : State) (hp : s.seq.phase = .keyXor 0) (hk : s.seq.ko = 0) : ∀ k, k ≤ 18 →
    expansionStep^[k] s =
      { s with tables := keyPhaseTo (keyOperand s.seq.ksrc s) k s.tables,
               seq := { s.seq with ko := 4 * k, phase := keyPosition k } }
  | 0, _ => by
    cases s with | mk =>
    rename Sequencer => q
    cases q
    simp_all [keyPhaseTo, keyPosition]
  | k + 1, h => by
    rw [Function.iterate_succ_apply', expansionStep_key_run s hp hk k (by omega)]
    have hk18 : k < 18 := by omega
    have hpos : keyPosition k = .keyXor ⟨k, hk18⟩ := by simp [keyPosition, hk18]
    have hnext : nextKeyWord ⟨k, hk18⟩ = keyPosition (k + 1) := by simp [nextKeyWord, keyPosition]
    rw [keyPhaseTo_succ _ _ hk18]
    simp only [expansionStep, hpos, keyXorStep, hnext]
    rfl

/-- The position after `k` pairs of ENCRYPT; after the last one it stays (log 3). -/
def pairPosition (k : Nat) : XPhase := .encrypt ⟨min k 520, by omega⟩

theorem expansionStep_pair_run (s : State) (hp : s.seq.phase = .encrypt 0) (hs : s.seq.so = 0) (hb : s.seq.block = ⟨0, 0⟩) :
    ∀ k, k ≤ 521 → expansionStep^[k] s =
      { s with tables := (pairsTo (saltOperand s.seq.ssrc s) k s.tables).tables,
               seq := { s.seq with block := (pairsTo (saltOperand s.seq.ssrc s) k s.tables).block,
                                   so := 8 * k, phase := pairPosition k } }
  | 0, _ => by
    cases s with | mk =>
    rename Sequencer => q
    cases q
    simp_all [pairsTo, pairPosition]
  | k + 1, h => by
    rw [Function.iterate_succ_apply', expansionStep_pair_run s hp hs hb k (by omega)]
    have hk : k < 521 := by omega
    have hpos : pairPosition k = .encrypt ⟨k, hk⟩ := by
      simp only [pairPosition, XPhase.encrypt.injEq, Fin.mk.injEq]
      omega
    have hnext : nextPair ⟨k, hk⟩ = pairPosition (k + 1) := by
      unfold nextPair pairPosition
      by_cases hlast : k + 1 < 521
      · rw [dif_pos hlast, XPhase.encrypt.injEq, Fin.mk.injEq]
        show k + 1 = _
        omega
      · rw [dif_neg hlast, XPhase.encrypt.injEq, Fin.mk.injEq]
        show k = _
        omega
    have hso := pairsTo_so (saltOperand s.seq.ssrc s) s.tables k (by omega)
    rw [pairsTo_succ _ _ hk]
    simp only [expansionStep, hpos, encryptPairStep, hnext]
    rw [← hso]
    have : (encryptPair (saltOperand s.seq.ssrc s) (pairsTo (saltOperand s.seq.ssrc s) k s.tables) ⟨k, hk⟩).so = 8 * (k + 1) := by
      show (pairsTo (saltOperand s.seq.ssrc s) k s.tables).so + 4 + 4 = _
      omega
    rw [← this]
    rfl

/-- `StartExpand` has just been done (42_key_schedule.md R152). -/
def AtStart (q : Sequencer) : Prop := q.phase = .keyXor 0 ∧ q.ko = 0 ∧ q.so = 0 ∧ q.block = ⟨0, 0⟩

theorem startExpansion_atStart (k : KeySrc) (z : SaltSrc) (q : Sequencer) : AtStart (startExpansion k z q) :=
  ⟨rfl, rfl, rfl, rfl⟩

/-- After `k` XSteps, `18 ≤ k ≤ 539`, the expansion has stored `k - 18` pairs. -/
theorem expansionStep_run {s : State} (h : AtStart s.seq) {k : Nat} (hk : k ≤ 521) :
    expansionStep^[18 + k] s =
      { s with tables := (pairsTo (saltOperand s.seq.ssrc s) k (keyPhase (keyOperand s.seq.ksrc s) s.tables)).tables,
               seq := { s.seq with
                 block := (pairsTo (saltOperand s.seq.ssrc s) k (keyPhase (keyOperand s.seq.ksrc s) s.tables)).block,
                 ko := 72, so := 8 * k, phase := pairPosition k } } := by
  obtain ⟨hp, hko, hso, hb⟩ := h
  rw [Nat.add_comm, Function.iterate_add_apply, expansionStep_key_run s hp hko 18 (by omega), keyPhaseTo_all,
    expansionStep_pair_run _ (by simp [keyPosition]) (by simpa using hso) (by simpa using hb) k hk]
  simp only [saltOperand_tables_seq]

/-- 539 XSteps are the expansion of R138, and nothing else of the block changes but the sequencer. -/
theorem expansionStep_all {s : State} (h : AtStart s.seq) :
    expansionStep^[539] s =
      { s with tables := expandTables (keyOperand s.seq.ksrc s) (saltOperand s.seq.ssrc s) s.tables,
               seq := { s.seq with
                 block := (encryptPhase (saltOperand s.seq.ssrc s) (keyPhase (keyOperand s.seq.ksrc s) s.tables)).block,
                 ko := 72, so := 4168, phase := .encrypt 520 } } := by
  have := expansionStep_run h (k := 521) (by omega)
  rw [pairsTo_all] at this
  exact this

/-- The last XStep is the 539th and no earlier one. -/
theorem lastPair_run {s : State} (h : AtStart s.seq) {k : Nat} (hk : k ≤ 538) :
    lastPair (expansionStep^[k] s).seq.phase = decide (k = 538) := by
  obtain hlt | ⟨j, rfl⟩ : k < 18 ∨ ∃ j, k = 18 + j := by
    by_cases hlt : k < 18
    · exact .inl hlt
    · exact .inr ⟨k - 18, by omega⟩
  · rw [expansionStep_key_run s h.1 h.2.1 k (by omega)]
    simp [keyPosition, hlt, lastPair]
    omega
  · rw [expansionStep_run h (by omega)]
    simp only [pairPosition, lastPair, Bool.beq_eq_decide_eq, decide_eq_decide]
    omega

/-- A stage that runs XSteps and does `finish` with the last one: 539 engine steps are `finish` of the whole expansion.
`C` is what the stage's engine steps keep (the operation, the stage, BUSY). -/
theorem engineStep_expansion {C : State → Prop} {finish : State → State} (keeps : ∀ u, C u → C (expansionStep u))
    (runs : ∀ u, C u → engineStep u = if lastPair u.seq.phase then finish (expansionStep u) else expansionStep u)
    {s : State} (hC : C s) (h : AtStart s.seq) :
    (∀ k, k ≤ 538 → engineStep^[k] s = expansionStep^[k] s) ∧ engineStep^[539] s = finish (expansionStep^[539] s) := by
  have hCk : ∀ k, C (expansionStep^[k] s) := by
    intro k
    induction k with
    | zero => exact hC
    | succ k ih => rw [Function.iterate_succ_apply']; exact keeps _ ih
  have before : ∀ k, k ≤ 538 → engineStep^[k] s = expansionStep^[k] s := by
    intro k
    induction k with
    | zero => intro _; rfl
    | succ k ih =>
      intro hk
      rw [Function.iterate_succ_apply', ih (by omega), runs _ (hCk k), lastPair_run h (by omega),
        Function.iterate_succ_apply']
      simp
      omega
  refine ⟨before, ?_⟩
  rw [Function.iterate_succ_apply' engineStep 538, before 538 (by omega), runs _ (hCk 538), lastPair_run h (by omega),
    Function.iterate_succ_apply' expansionStep 538]
  rfl

end Sys2Proof.Machine
end

