-- ==== Sys2Proof/Laws/PerInstr.lean ====
section
/-! SUPPORT. What holds of every instruction as syntax, one lemma per constructor: its encoding is a legal word of
spec/30_encoding.md R80, and it is well formed. -/

namespace Sys2Proof.Laws

/-- The encoding sets no reserved bit, no field its OP does not use, and a defined OP (30_encoding.md R80, R85, R89). -/
def EncodesLegally.Statement (i : Instr) : Prop := legalWord (encode i) = true ∧ i.wellFormed = true

theorem EncodesLegally.nop : EncodesLegally.Statement .nop := by
  unfold EncodesLegally.Statement
  decide

theorem EncodesLegally.init : EncodesLegally.Statement .init := by
  unfold EncodesLegally.Statement
  decide

theorem EncodesLegally.expand (ksrc : KeySrc) (ssrc : SaltSrc) : EncodesLegally.Statement (.expand ksrc ssrc) := by
  unfold EncodesLegally.Statement
  cases ksrc <;> cases ssrc <;> decide

theorem EncodesLegally.eks (cost : BitVec 5) : EncodesLegally.Statement (.eks cost) := by
  unfold EncodesLegally.Statement
  revert cost
  decide

theorem EncodesLegally.encrypt : EncodesLegally.Statement .encrypt := by
  unfold EncodesLegally.Statement
  decide

theorem EncodesLegally.digest : EncodesLegally.Statement .digest := by
  unfold EncodesLegally.Statement
  decide

end Sys2Proof.Laws
end

