-- ==== Sys2Proof/Laws/Tables.lean ====
section
/-! SUPPORT. What the table operations read and write: reads after writes of P and S (spec/42_key_schedule.md R134, R136), and the
bytes of the streams (R131). -/

namespace Sys2Proof.Machine

@[simp] theorem xorSubkey_p_self (i : Fin 18) (w : Word) (t : Tables) : (xorSubkey i w t).p[i.val] = t.p[i.val] ^^^ w := by
  simp [xorSubkey]

theorem xorSubkey_p_other (i : Fin 18) (w : Word) (t : Tables) {j : Nat} (hj : j < 18) (h : i.val ≠ j) :
    (xorSubkey i w t).p[j] = t.p[j] := by
  simp [xorSubkey, h]

/-- XORing a zero word changes nothing. -/
theorem xorSubkey_zero (i : Fin 18) (t : Tables) : xorSubkey i 0 t = t := by
  simp [xorSubkey]

theorem storePair_subkeys {n : Fin 521} (h : n.val < 9) (b : Block) (t : Tables) :
    storePair n b t = { t with p := (t.p.set (2 * n.val) b.l).set (2 * n.val + 1) b.r } := by
  simp [storePair, h]

/-- A pair of P writes its two subkeys and no S-box entry. -/
theorem storePair_low_s {n : Fin 521} (h : n.val < 9) (b : Block) (t : Tables) : (storePair n b t).s = t.s := by
  rw [storePair_subkeys h]

theorem storePair_low_p {n : Fin 521} (h : n.val < 9) (b : Block) (t : Tables) {j : Nat} (hj : j < 18) :
    (storePair n b t).p[j] = if j = 2 * n.val then b.l else if j = 2 * n.val + 1 then b.r else t.p[j] := by
  rw [storePair_subkeys h]
  simp only [Vector.getElem_set]
  grind

/-- A pair of S writes no subkey. -/
theorem storePair_high_p {n : Fin 521} (h : ¬n.val < 9) (b : Block) (t : Tables) : (storePair n b t).p = t.p := by
  simp [storePair, h]

/-- A pair of S writes the entries `u` and `u + 1` of the 1024, `u = 2 (n - 9)`, and no other. -/
theorem storePair_high_s {n : Fin 521} (h : ¬n.val < 9) (b : Block) (t : Tables) {k j : Nat} (hk : k < 4) (hj : j < 256) :
    (storePair n b t).s[k][j] =
      if 256 * k + j = 2 * (n.val - 9) then b.l else if 256 * k + j = 2 * (n.val - 9) + 1 then b.r else t.s[k][j] := by
  by_cases hrow : 2 * (n.val - 9) / 256 = k
  · have row : (storePair n b t).s[k] =
        (t.s[k].set (2 * (n.val - 9) % 256) b.l).set (2 * (n.val - 9) % 256 + 1) b.r (by omega) := by
      subst hrow
      simp [storePair, h]
    rw [row]
    simp only [Vector.getElem_set]
    grind
  · have row : (storePair n b t).s[k] = t.s[k] := by simp [storePair, h, hrow]
    rw [row, if_neg (by omega), if_neg (by omega)]

@[simp] theorem streamByte_empty (off : Nat) : streamByte [] off = 0 := rfl

theorem streamByte_cyclic {b : List Byte} (h : b ≠ []) (off : Nat) : b[off % b.length]? = some (streamByte b off) := by
  have hl : b.length ≠ 0 := by simpa using h
  simp [streamByte, hl, Nat.mod_lt _ (Nat.pos_of_ne_zero hl)]

/-- The stream words of two strings agree where their bytes do. -/
theorem streamWord_congr {b c : List Byte} {off : Nat} (h : ∀ k, k < 4 → streamByte b (off + k) = streamByte c (off + k)) :
    streamWord b off = streamWord c off := by
  simp only [streamWord, List.foldl_cons, List.foldl_nil, h 0 (by omega), h 1 (by omega), h 2 (by omega), h 3 (by omega)]

/-- Two keys with equal stream words at the 18 key offsets have equal key phases. -/
theorem keyPhase_congr {b c : List Byte} (h : ∀ i : Fin 18, (streamWord b (4 * i.val)).1 = (streamWord c (4 * i.val)).1)
    (t : Tables) : keyPhase b t = keyPhase c t := by
  simp only [keyPhase, h]

end Sys2Proof.Machine
end

