-- ==== Sys2Proof/Tests/Slice0.lean ====
section
/-! SUPPORT. The model's own tests: the word checks of WellFormed, command words written out from spec/30_encoding.md R83, at most
two small tests a command with results from spec/95_test_vectors.md, and for every statement with hypotheses a witness that meets
them together. -/

namespace Sys2Proof.Tests

open Sys2Proof.Machine

/-! ### WellFormed: each check refuses an ill-formed word (spec/30_encoding.md R80, R85) -/

theorem test_opDefined_refuses_6 : opDefined 0x00000006 = false ∧ legalWord 0x00000006 = false := by decide
theorem test_opDefined_refuses_15 : opDefined 0x0000000F = false ∧ opDefined 0x00000005 = true := by decide
theorem test_reservedZero_refuses : reservedZero 0x00000013 = false ∧ reservedZero 0x00000080 = false ∧
    reservedZero 0x00002003 = false ∧ reservedZero 0x00008003 = false ∧ reservedZero 0x00040002 = false ∧
    reservedZero 0x80000001 = false := by decide
theorem test_costFieldUsed_refuses : costFieldUsed 0x00000104 = false ∧ costFieldUsed 0x00001002 = false ∧
    costFieldUsed 0x00001F03 = true := by decide
theorem test_sourceFieldsUsed_refuses : sourceFieldsUsed 0x00010003 = false ∧ sourceFieldsUsed 0x00020001 = false ∧
    sourceFieldsUsed 0x00030002 = true := by decide
theorem test_wellFormed_eks_cost_zero : (Instr.eks 0).wellFormed = true ∧ legalWord (encode (.eks 0)) = true := by decide

/-! ### Decoding: words from the 32-character patterns of R83, bit 31 first -/

theorem test_decode_nop : decode 0b00000000000000000000000000000000 = .command .nop := by decide
theorem test_decode_init : decode 0b00000000000000000000000000000001 = .command .init := by decide
theorem test_decode_expand_key_K_salt_Z :
    decode 0b00000000000000100000000000000010 = .command (.expand .keyBuffer .zero) := by decide
theorem test_decode_expand_key_S_salt_S :
    decode 0b00000000000000010000000000000010 = .command (.expand .saltBuffer .saltBuffer) := by decide
theorem test_decode_eks_12 : decode 0b00000000000000000000110000000011 = .command (.eks 12) := by decide
theorem test_decode_encrypt : decode 0b00000000000000000000000000000100 = .command .encrypt := by decide
theorem test_decode_digest : decode 0b00000000000000000000000000000101 = .command .digest := by decide
theorem test_decode_table_word : decodeTableWord 32 0x00000503 = some (.eks 5) ∧ decodeTableWord 32 0x00000007 = none ∧
    decodeTableWord 40 0 = none := by decide

/-! ### Small states -/

/-- Idle, tables valid, SALTLEN = 16. -/
def idleTv : State :=
  { State.reset with status := { Status.reset with tv := true }, saltLen := 16 }

/-- Busy with `op` right after acceptance, tables valid, SALTLEN = 16. -/
def busyWith (op : EngineOp) : State :=
  { idleTv with status := startedStatus idleTv.status, seq := { Sequencer.reset with op := op } }

/-- Idle with valid tables and the given SALTLEN. -/
def withSaltLen (n : BitVec 5) : State := { idleTv with saltLen := n }

/-- The state of an outcome, or `s` where there is none. -/
def nextOr (o : Host.Outcome State Fault Refusal) (s : State) : State :=
  match o with
  | .next t => t
  | .fault _ => s
  | .refused _ => s

/-- STATUS as read after a command is issued on `s`. -/
def statusAfter (i : Instr) (s : State) : Word := statusWord (nextOr (exec i s) s).status

/-! ### The commands (spec/95_test_vectors.md) -/

/-- R207's worked example: after a failed EKS with TV = 1, NOP leaves STATUS 0x12. -/
theorem test_nop_clears_error : statusAfter .nop (nextOr (exec (.eks 3) idleTv) idleTv) = 0x12 := by decide
/-- V-DEC-1. -/
theorem test_nop_before_init : statusAfter .nop State.reset = 0x02 := by decide
/-- V-INIT-1: STATUS 0x12 and the first and last table words after the one engine step. -/
theorem test_init_loads : statusWord (engineStep (nextOr (exec .init State.reset) State.reset)).status = 0x12 ∧
    (engineStep (nextOr (exec .init State.reset) State.reset)).tables.p[17] = 0x8979FB1B := by decide +kernel
theorem test_init_last_word :
    (engineStep (nextOr (exec .init State.reset) State.reset)).tables.s[3][255] = 0x3AC372E6 := by decide +kernel
/-- V-EXP-14. -/
theorem test_expand_tables_not_valid : statusAfter (.expand .keyBuffer .saltBuffer) State.reset = 0x206 := by decide
/-- V-EXP-15 and V-EXP-16. -/
theorem test_expand_salt_length : statusAfter (.expand .keyBuffer .saltBuffer) (withSaltLen 17) = 0x416 ∧
    statusAfter (.expand .keyBuffer .zero) (withSaltLen 17) = 0x11 := by decide
/-- V-EKS-12 with TV = 1 and V-EKS-15. -/
theorem test_eks_cost : statusAfter (.eks 3) idleTv = 0x316 ∧ statusAfter (.eks 2) State.reset = 0x306 := by decide
/-- V-EKS-14 and the acceptance of V-EKS-16 (BUSY, TV 0). -/
theorem test_eks_salt_length : statusAfter (.eks 4) { State.reset with saltLen := 15 } = 0x406 ∧
    statusAfter (.eks 4) { State.reset with saltLen := 16 } = 0x01 := by decide
/-- V-ENC-11. -/
theorem test_encrypt_tables_not_valid : statusAfter .encrypt State.reset = 0x206 := by decide
/-- V-ENC-1. -/
theorem test_encrypt_zero_block : encryptBlock initTables ⟨0, 0⟩ = ⟨0x706D9FCC, 0x1792D23A⟩ := by decide +kernel
/-- V-DIG-2. -/
theorem test_digest_tables_not_valid : statusAfter .digest State.reset = 0x206 := by decide
/-- X-1: the magic constant is the ASCII string, big-endian. -/
theorem test_digest_constant : ctext.toList.flatMap wordBytes =
    "OrpheanBeholderScryDoubt".toList.map (fun c => BitVec.ofNat 8 c.toNat) := by decide

/-! ### Streams and the window -/

/-- V-KS-3: the key "abc" wraps inside a word. -/
theorem test_stream_abc : (streamWord [0x61, 0x62, 0x63] 4).1 = 0x62636162 ∧
    (streamWord [0x61, 0x62, 0x63] 68).1 = 0x63616263 := by decide
/-- V-WIN-2, V-WIN-3. -/
theorem test_lengths_are_masked :
    (memRead 0x0008 (nextOr (memWrite 0x0008 0xFFFFFFFF State.reset) State.reset)).1 = 0x7F ∧
    (memRead 0x000C (nextOr (memWrite 0x000C 0x25 State.reset) State.reset)).1 = 0x05 := by decide
/-- V-WIN-5, V-WIN-6: a busy write is dropped and sets OVERRUN; a STATUS write clears it while busy. -/
theorem test_overrun : (nextOr (memWrite 0x0040 7 (busyWith .eks)) State.reset).key[0] = 0 ∧
    (nextOr (memWrite 0x0040 7 (busyWith .eks)) State.reset).status.overrun = true ∧
    (nextOr (memWrite 0x0004 8 (nextOr (memWrite 0x0040 7 (busyWith .eks)) State.reset)) State.reset).status.overrun = false :=
  by decide
/-- V-WIN-7. -/
theorem test_refused : step { State.reset with program := [.rd 0x0002 .w32] } = .refused .accessMisaligned ∧
    step { State.reset with program := [.rd 0x0000 .w8] } = .refused .accessWidth ∧
    step { State.reset with program := [.rd 0x4000 .w32] } = .refused .accessOutsideWindow := ⟨rfl, rfl, rfl⟩
/-- V-DEC-13 at the CMD register: ILLEGAL beats TABLES_NOT_VALID. -/
theorem test_illegal_word : statusWord (nextOr (memWrite 0x0000 0x00000007 State.reset) State.reset).status = 0x106 := by decide
/-- The first step after reset runs the placed command word (log 5). -/
theorem test_first_command : statusWord (nextOr (step (State.reset.withFetchWord 32 0x00000004)) State.reset).status = 0x206 ∧
    (nextOr (step (State.reset.withFetchWord 32 0x00000001)) State.reset).status.busy = true := by decide

/-! ### Witnesses: concrete states and operands that meet the hypotheses of each statement together -/

theorem witness_IllegalWordsAreRejected :
    (Idle State.reset ∧ decode 0x00000006 = .illegal) ∧ (3#5).toNat < 4 ∧ (0#5).toNat < 4 := by decide

theorem witness_StepRunsDecodedCommand :
    (turnOf { State.reset with program := [.wr 0x0000 .w32 0x403] } = .host ∧
      State.program { State.reset with program := [.wr 0x0000 .w32 0x403] } = .wr 0x0000 .w32 0x403 :: [] ∧
      Idle { State.reset with program := [.wr 0x0000 .w32 0x403] } ∧ decode 0x403 = .command (.eks 4)) ∧
    decode 0x00030002 = .command (.expand .saltBuffer .zero) := by decide

theorem witness_BusyCommandIsDropped : (busyWith .init).status.busy = true := by decide
theorem witness_NopCompletesAtOnce : Idle State.reset ∧ Idle idleTv ∧
    (0x00000010 : Word).extractLsb' 0 4 = 0 ∧ (0x00000010 : Word) ≠ 0 := by decide
theorem witness_InitLoadsTables : Idle State.reset := by decide
theorem witness_EncryptEncryptsData : Idle idleTv ∧ idleTv.status.tv = true := by decide

/-- SALTLEN 16 with the salt buffer in both roles, and 31 where it is not read. -/
theorem witness_ExpandExpandsTables :
    (Idle (withSaltLen 16) ∧ (withSaltLen 16).status.tv = true ∧
      ((KeySrc.saltBuffer = .saltBuffer ∨ SaltSrc.saltBuffer = .saltBuffer) → (withSaltLen 16).saltLen.toNat ≤ 16)) ∧
    (Idle (withSaltLen 31) ∧ (withSaltLen 31).status.tv = true ∧
      ((KeySrc.keyBuffer = .saltBuffer ∨ SaltSrc.zero = .saltBuffer) → (withSaltLen 31).saltLen.toNat ≤ 16)) := by decide

/-- The least and the greatest cost. -/
theorem witness_EksSetsUpTables : Idle { State.reset with saltLen := 16 } ∧ 4 ≤ (4#5).toNat ∧ 4 ≤ (31#5).toNat ∧
    State.saltLen { State.reset with saltLen := 16 } = 16 := by decide

theorem witness_DigestWritesDigest : Idle idleTv ∧ idleTv.status.tv = true := by decide

theorem witness_TablesNotValidIsRaised :
    (Idle State.reset ∧ State.reset.status.tv = false) ∧ Idle idleTv ∧
      ∃ t, exec .init idleTv = .next t ∧ t.status.errCode ≠ .tablesNotValid := by
  refine ⟨by decide, by decide, _, rfl, by decide⟩

/-- COST 0 and 3 below the bound; COST 4 and 31 at the ends of the legal range, both accepted. -/
theorem witness_InvalidCostIsRaised : (Idle State.reset ∧ (3#5).toNat < 4 ∧ (0#5).toNat < 4) ∧ Idle idleTv ∧
    (4 ≤ (4#5).toNat ∧ ∃ t, exec (.eks 4) idleTv = .next t ∧ t.status.errCode ≠ .invalidCost) ∧
    4 ≤ (31#5).toNat ∧ ∃ t, exec (.eks 31) idleTv = .next t ∧ t.status.errCode ≠ .invalidCost := by
  refine ⟨by decide, by decide, ⟨by decide, _, rfl, by decide⟩, by decide, _, rfl, by decide⟩

/-- SALTLEN 15 and 17 for EKS, 17 for EXPAND, and an accepted EXPAND of the key buffer with the zero salt. -/
theorem witness_InvalidSaltLengthIsRaised :
    (Idle (withSaltLen 15) ∧ 4 ≤ (4#5).toNat ∧ (withSaltLen 15).saltLen ≠ 16 ∧ (withSaltLen 17).saltLen ≠ 16) ∧
    (Idle (withSaltLen 17) ∧ (withSaltLen 17).status.tv = true ∧ 16 < (withSaltLen 17).saltLen.toNat) ∧
    (∃ t, exec (.expand .keyBuffer .zero) (withSaltLen 17) = .next t) :=
  ⟨by decide, by decide, _, rfl⟩

theorem witness_FailedCommandChangesOnlyStatus :
    Idle State.reset ∧ ∃ t, exec .encrypt State.reset = .next t ∧ t.status.err = true := ⟨by decide, _, rfl, by decide⟩

/-- A word for each clause: illegal, NOP, EXPAND, EKS, ENCRYPT, on an idle state. -/
theorem witness_ChecksAreMadeInOrder : Idle State.reset ∧ decode 0x7 = .illegal ∧ decode 0x0 = .command .nop ∧
    decode 0x2 = .command (.expand .keyBuffer .saltBuffer) ∧ decode 0x303 = .command (.eks 3) ∧
    decode 0x4 = .command .encrypt := by decide

theorem witness_RunningCommandNeverFails :
    (busyWith .encrypt).status.busy = true ∧ statusLegal (busyWith .encrypt).status = true := by decide

theorem witness_StreamWordIsCyclicBigEndian : (3 : Nat) < 4 ∧ ([0x61] : List Byte) ≠ [] := by decide
theorem witness_RepeatedKeyExpandsAsOneCopy : (0 : Nat) < 1 := by decide

/-- Key lengths 72 and 127, and a buffer of zero bytes for the second clause. -/
theorem witness_KeyBytesPast72AreIgnored :
    72 ≤ (List.replicate 72 (0 : Byte)).length ∧
    (72 ≤ (State.keyLen { State.reset with keyLen := 127 }).toNat ∧
      (List.replicate 127 (0 : Byte)).length = (State.keyLen { State.reset with keyLen := 127 }).toNat ∧
      (List.replicate 127 (0 : Byte)).take 72 = keyBufferBytes { State.reset with keyLen := 127 }) := by decide +kernel

theorem witness_SaltStreamHasPeriodFour : idleTv.saltLen = 16 := by decide
theorem witness_EksIsTheCommandSequence : Idle idleTv ∧ 4 ≤ (4#5).toNat ∧ idleTv.saltLen = 16 := by decide

theorem witness_EncryptionWorkIsExact :
    Idle idleTv ∧ check (.eks 4) idleTv = .noError ∧ ∃ t, exec (.eks 4) idleTv = .next t := ⟨by decide, by decide, _, rfl⟩

/-- The last registers of the array ranges. -/
theorem witness_RegisterMapIsOneToOne : regAt 0x0084 = some (.key 17) ∧ regAt 0x00CC = some (.salt 3) ∧
    regAt 0x0114 = some (.digest 5) ∧ regAt 0x1044 = some (.p 17) ∧ regAt 0x2FFC = some (.s 3 255) := by decide

theorem witness_WindowIsSixteenKiB : (0x3FFF : Nat) < 0x4000 ∧ windowOffset (hostAddress 0) = some 0 :=
  ⟨by decide, by simp [windowOffset, hostAddress]⟩

theorem witness_WrittenRegisterReadsBack : Idle State.reset := by decide
theorem witness_CmdReadsLastAcceptedWord : Idle State.reset := by decide
theorem witness_BusyWritesAreDropped : (busyWith .expand).status.busy = true ∧ (0x3FFC : Nat) ≠ 0x0004 := by decide

/-- The first and the last offset of each unmapped range: none of them is a register. -/
theorem witness_ReadOnlyAndUnmappedOffsets : Idle State.reset ∧
    ([0x0018, 0x003C, 0x0088, 0x00BC, 0x00D0, 0x00FC, 0x0118, 0x0FFC, 0x1048, 0x1FFC, 0x3000, 0x3FFC].map regAt).all
      (fun r => r == none) = true := by decide

theorem witness_UnspecifiedReadsAreDraws : (busyWith .digest).status.busy = true ∧
    Idle State.reset ∧ State.reset.status.tv = false := by decide
theorem witness_IdleReadsReturnResults : Idle idleTv ∧ idleTv.status.tv = true := by decide

theorem witness_ReadsHaveNoSideEffect :
    turnOf { State.reset with program := [.rd 0x3FFC .w32] } = .host ∧
    State.program { State.reset with program := [.rd 0x3FFC .w32] } = .rd 0x3FFC .w32 :: [] ∧
    0x3FFC % 4 = 0 ∧ 0x3FFC ≤ 0x3FFC := by decide

/-- INIT's completion sets TV; a reset clears it. -/
theorem witness_TablesValidChangesOnlyBy :
    (∃ s t : State, step s = .next t ∧ t.status.tv ≠ s.status.tv ∧ t.status.tv = true) ∧
    (∃ s t : State, step s = .next t ∧ t.status.tv ≠ s.status.tv ∧ t.status.tv = false) :=
  ⟨⟨{ busyWith .init with status := startedStatus Status.reset }, _, rfl, by decide, by decide⟩,
    ⟨{ idleTv with turns := [.reset] }, _, rfl, by decide, by decide⟩⟩

theorem witness_TablesAreWrittenOnlyBy : ∃ s t : State, step s = .next t ∧ t.tables ≠ s.tables :=
  ⟨busyWith .init, _, rfl, fun h => absurd (congrArg (fun x : Tables => x.p[0]) h) (by decide +kernel)⟩

/-- An idle write to DATA_L and to DATA_R, and the last block of a DIGEST over the zero tables. -/
theorem witness_ResultsAreWrittenOnlyBy :
    (∃ s t : State, step s = .next t ∧ t.dataL ≠ s.dataL) ∧ (∃ s t : State, step s = .next t ∧ t.dataR ≠ s.dataR) ∧
    (∃ s t : State, step s = .next t ∧ t.digest ≠ s.digest) :=
  ⟨⟨{ State.reset with program := [.wr 0x0010 .w32 1] }, _, rfl, by decide⟩,
    ⟨{ State.reset with program := [.wr 0x0014 .w32 1] }, _, rfl, by decide⟩,
    ⟨{ busyWith .digest with seq := { Sequencer.reset with op := .digest, dpass := 63, dblk := 2, dw := ctext } }, _, rfl,
      fun h => absurd (congrArg (fun x : Vector Word 6 => x[0]) h) (by decide +kernel)⟩⟩

theorem witness_InputsAreStableWhileBusy : (busyWith .expand).status.busy = true ∧ turnOf (busyWith .expand) ≠ .reset ∧
    ∃ t, step (busyWith .expand) = .next t := ⟨by decide, by decide, _, rfl⟩

theorem witness_BusyChangesOnlyBy :
    (∃ s t : State, step s = .next t ∧ s.status.busy = true ∧ t.status.busy = false) ∧
    (∃ s t : State, step s = .next t ∧ s.status.busy = false ∧ t.status.busy = true) :=
  ⟨⟨busyWith .init, _, rfl, by decide, by decide⟩,
    ⟨{ State.reset with program := [.wr 0x0000 .w32 1] }, _, rfl, by decide, by decide⟩⟩

/-- A dropped busy write, a clearing STATUS write, a reset, and an engine step for the last clause. -/
theorem witness_OverrunIsSticky :
    (∃ s t : State, step s = .next t ∧ turnOf s = .host ∧ s.status.busy = true ∧
      s.program = .wr 0x3FFC .w32 0 :: [] ∧ 0x3FFC ≠ 0x0004) ∧
    (∃ s t : State, step s = .next t ∧ turnOf s = .host ∧ s.program = .wr 0x0004 .w32 8 :: []) ∧
    (∃ s t : State, step s = .next t ∧ turnOf s = .reset) ∧
    (∃ s t : State, step s = .next t ∧ turnOf s = .engine) :=
  ⟨⟨{ busyWith .eks with program := [.wr 0x3FFC .w32 0], turns := [.host] }, _, rfl, by decide, by decide, rfl, by decide⟩,
    ⟨{ State.reset with status := { Status.reset with overrun := true }, program := [.wr 0x0004 .w32 8] }, _, rfl,
      by decide, rfl⟩,
    ⟨{ State.reset with turns := [.reset] }, _, rfl, by decide⟩, ⟨busyWith .encrypt, _, rfl, by decide⟩⟩

theorem witness_HostWritesNoResult :
    turnOf { State.reset with program := [.wr 0x0010 .w32 1] } = .host ∧
    (∃ t, step { State.reset with program := [.wr 0x0010 .w32 1] } = .next t) ∧
    ∀ w rest, State.program { State.reset with program := [.wr 0x0010 .w32 1] } ≠ .wr 0x0000 .w32 w :: rest :=
  ⟨by decide, ⟨_, rfl⟩, fun w rest h => by simp at h⟩

/-- A busy state whose host reads DATA_L, and one that differs from it in DATA_L. -/
theorem witness_HostSeesNothingOfRunningCommand :
    ∃ s s' t : State, s.status.busy = true ∧ turnOf s = .host ∧ sameToHost s s' ∧ s'.dataL ≠ s.dataL ∧ step s = .next t :=
  ⟨{ busyWith .encrypt with program := [.rd 0x0010 .w32], turns := [.host] },
    { busyWith .encrypt with program := [.rd 0x0010 .w32], turns := [.host], dataL := 1 }, _, by decide, by decide, rfl,
    by decide, rfl⟩

theorem witness_HostStepCommutesWithEngineStep :
    ∃ s t : State, s.status.busy = true ∧ (engineStep s).status.busy = true ∧ hostStep s = .next t :=
  ⟨{ busyWith .expand with program := [.wr 0x0008 .w32 9] }, _, by decide, by decide, rfl⟩

/-- A poll while busy, and a read of the last table word with TV = 1. -/
theorem witness_DisciplinedHostLosesNothing :
    disciplined { busyWith .eks with program := [.rd 0x0004 .w32], turns := [.host] } = true ∧
    disciplined { idleTv with program := [.rd 0x2FFC .w32] } = true := by decide

theorem witness_ResetIsOneEvent : turnOf { busyWith .eks with turns := [.reset] } = .reset := by decide

theorem witness_EveryStepKeepsInvariant : blockInv (busyWith .expand) = true ∧ ∃ t, step (busyWith .expand) = .next t :=
  ⟨by decide, _, rfl⟩

theorem witness_BusyCommandCompletes : blockInv (busyWith .digest) = true ∧ (busyWith .digest).status.busy = true ∧
    (busyWith .digest).turns = [] := by decide

end Sys2Proof.Tests
end

section
/-! O45: what each turn does to OVERRUN (spec/10_state.md R37). An engine step leaves STATUS or completes the command, which
keeps OVERRUN; of the host's statements only a write that is not refused can change it. -/

namespace Sys2Proof.Machine

@[simp] theorem afterTurn_status (s : State) : (afterTurn s).status = s.status := rfl
@[simp] theorem afterTurn_program (s : State) : (afterTurn s).program = s.program := rfl

/-! ### The engine -/

@[simp] theorem expansionStep_status (s : State) : (expansionStep s).status = s.status := by
  unfold expansionStep
  split
  · exact keyXorStep_status _ s
  · exact encryptPairStep_status _ s

theorem expandStep_status (s : State) :
    (expandStep s).status = s.status ∨ (expandStep s).status = (completeCommand false s).status := by
  unfold expandStep
  split
  · exact .inr (by simp)
  · exact .inl (expansionStep_status s)

theorem endRepetition_status (s : State) :
    (endRepetition s).status = s.status ∨ (endRepetition s).status = (completeCommand true s).status := by
  unfold endRepetition
  dsimp only
  split
  · exact .inr rfl
  · exact .inl rfl

theorem eksStep_status (s : State) :
    (eksStep s).status = s.status ∨ (eksStep s).status = (completeCommand true s).status := by
  have mid (enter : State → State) (hE : ∀ u, (enter u).status = u.status) :
      (if lastPair s.seq.phase then enter (expansionStep s) else expansionStep s).status = s.status := by
    split <;> simp [hE]
  unfold eksStep
  cases s.seq.stage with
  | s1 => exact .inl rfl
  | s2 => exact .inl (mid enterStage3 enterStage3_status)
  | s3a => exact .inl (mid enterStage3b enterStage3b_status)
  | s3b =>
    dsimp only
    split
    · simpa using endRepetition_status (expansionStep s)
    · exact .inl (expansionStep_status s)

theorem digestStep_status (s : State) :
    (digestStep s).status = s.status ∨ (digestStep s).status = (completeCommand false s).status := by
  unfold digestStep
  dsimp only
  split
  · exact .inr rfl
  · exact .inl rfl

/-- Everything an engine step can do to STATUS: nothing, or the completion of the command in progress, which sets TV for INIT
and EKS (10_state.md R35; 60_exceptions.md R206). -/
theorem engineStep_status_cases (s : State) :
    (engineStep s).status = s.status ∨ (s.status.busy = true ∧
      (engineStep s).status = (completeCommand (decide (s.seq.op = .init ∨ s.seq.op = .eks)) s).status) := by
  by_cases hb : s.status.busy = true
  · simp only [engineStep, hb, if_true, true_and]
    cases s.seq.op with
    | init => exact .inr rfl
    | expand => exact expandStep_status s
    | eks => exact eksStep_status s
    | encrypt => exact .inr rfl
    | digest => exact digestStep_status s
  · exact .inl (by rw [engineStep_idle (by simpa using hb)])

theorem engineStep_overrun (s : State) : (engineStep s).status.overrun = s.status.overrun := by
  obtain h | ⟨-, h⟩ := engineStep_status_cases s <;> rw [h]
  rfl

/-! ### The host -/

theorem startOf_overrun (i : Instr) (s : State) : (startOf i s).status.overrun = s.status.overrun := by
  cases i <;> rfl

/-- An accepted word, legal or not, keeps OVERRUN. -/
theorem acceptCommand_overrun {w : Word} {s t : State} (hb : s.status.busy = false) (h : acceptCommand w s = .next t) :
    t.status.overrun = s.status.overrun := by
  obtain ⟨i, -, hexec⟩ | ⟨-, rfl⟩ := acceptCommand_cases h
  · rw [exec_eq_issue] at hexec
    obtain ⟨hbusy, -⟩ | ⟨-, -, rfl⟩ | ⟨-, -, rfl⟩ := issueCommand_cases hexec
    · simp [hb] at hbusy
    · simp [startOf_overrun]
    · simp
  · rfl

theorem writeReg_overrun {r : Reg} {v : Word} {s t : State} (hb : s.status.busy = false) (h : writeReg r v s = .next t) :
    t.status.overrun = s.status.overrun := by
  cases r
  case cmd => exact acceptCommand_overrun hb h
  all_goals
    cases h
    rfl

theorem writeStatus_overrun (v : Word) (s : State) :
    (writeStatus v s).status.overrun = if v.getLsbD 3 then false else s.status.overrun := by
  unfold writeStatus
  split <;> rfl

/-- OVERRUN after any write that is not refused: STATUS takes the clearing bit, any other offset records a dropped write. -/
theorem memWrite_overrun {off : Nat} {v : Word} {s t : State} (h : memWrite off v s = .next t) :
    t.status.overrun = if off = 0x0004 then (if v.getLsbD 3 then false else s.status.overrun)
      else (s.status.busy || s.status.overrun) := by
  obtain ⟨rfl, rfl⟩ | ⟨hoff, hb, rfl⟩ | ⟨hoff, hb, -, rfl⟩ | ⟨hoff, hb, r, -, hw⟩ := memWrite_cases h
  · simp [writeStatus_overrun]
  · simp [hoff, hb]
  · simp [hoff, hb]
  · simp [hoff, hb, writeReg_overrun hb hw]

theorem hostStep_overrun_of_write {s t : State} {off : Nat} {v : Word} {rest : List HostStmt}
    (hp : s.program = .wr off .w32 v :: rest) (h : hostStep s = .next t) :
    t.status.overrun = if off = 0x0004 then (if v.getLsbD 3 then false else s.status.overrun)
      else (s.status.busy || s.status.overrun) := by
  obtain ⟨hnil, -⟩ | ⟨off', v', rest', hwr, -, hw⟩ | ⟨off', rest', hrd, -⟩ | ⟨rest', hwait, -⟩ := hostStep_cases h
  · simp [hp] at hnil
  · rw [hp] at hwr
    cases hwr
    exact memWrite_overrun (s := { s with program := rest }) hw
  · simp [hp] at hrd
  · simp [hp] at hwait

theorem hostStep_overrun_of_no_write {s t : State} (hp : ∀ off v rest, s.program ≠ .wr off .w32 v :: rest)
    (h : hostStep s = .next t) : t.status.overrun = s.status.overrun := by
  obtain ⟨-, rfl⟩ | ⟨off, v, rest, hwr, -⟩ | ⟨off, rest, -, -, rfl⟩ | ⟨rest, -, rfl⟩ := hostStep_cases h
  · rfl
  · exact absurd hwr (hp off v rest)
  · obtain hr | hr := memRead_state off { s with program := rest } <;> rw [hr]
  · split <;> rfl

/-- A host step that neither loses a write nor writes bit 3 = 1 to STATUS keeps OVERRUN. -/
theorem hostStep_overrun_kept {s t : State} (h : hostStep s = .next t)
    (hdrop : ¬(s.status.busy = true ∧ ∃ off v rest, s.program = .wr off .w32 v :: rest ∧ off ≠ 0x0004))
    (hclear : ¬∃ v rest, s.program = .wr 0x0004 .w32 v :: rest ∧ v.getLsbD 3 = true) :
    t.status.overrun = s.status.overrun := by
  by_cases hp : ∃ off v rest, s.program = .wr off .w32 v :: rest
  · obtain ⟨off, v, rest, hp⟩ := hp
    rw [hostStep_overrun_of_write hp h]
    by_cases hoff : off = 0x0004
    · subst hoff
      have hv : ¬v.getLsbD 3 = true := fun hv => hclear ⟨v, rest, hp, hv⟩
      rw [if_pos rfl, if_neg hv]
    · have hb : ¬s.status.busy = true := fun hb => hdrop ⟨hb, off, v, rest, hp, hoff⟩
      simp [hoff, hb]
  · exact hostStep_overrun_of_no_write (fun off v rest hwr => hp ⟨off, v, rest, hwr⟩) h

/-- Settles O45: by the agent that moves; a reset clears STATUS, the engine keeps OVERRUN, and the host changes it only by a
write. -/
theorem overrunIsSticky : Obligations.OverrunIsSticky := by
  intro s t h
  obtain ⟨ht, hh⟩ | ⟨ht, rfl⟩ | ⟨ht, rfl⟩ := step_cases h
  · refine ⟨fun _ hb off v rest hp hoff => ?dropped, fun _ v rest hp => ?status, fun hr => by simp [ht] at hr,
      fun _ hdrop hclear => ?kept⟩
    case dropped => simpa [hoff, hb] using hostStep_overrun_of_write (s := afterTurn s) hp hh
    case status => simpa using hostStep_overrun_of_write (s := afterTurn s) hp hh
    case kept =>
      exact hostStep_overrun_kept (s := afterTurn s) hh (fun hd => hdrop ⟨ht, hd⟩) (fun hc => hclear ⟨ht, hc⟩)
  · simp [ht, engineStep_overrun]
  · exact ⟨fun hr => by simp [ht] at hr, fun hr => by simp [ht] at hr, fun _ => rfl, fun hr => absurd ht hr⟩

end Sys2Proof.Machine
end

section
/-! O38: which steps are refused (spec/20_memory.md R59). An access that passes the width, alignment and window test always has a
next state, whatever register it reaches and whatever command it issues, so that the test is the only source of a refusal. -/

namespace Sys2Proof.Machine

/-- An access R59 gives no meaning: another width than 32 bits, an offset no multiple of 4, or one outside the window. -/
def BadAccess (width : Width) (off : Nat) : Prop := width ≠ .w32 ∨ off % 4 ≠ 0 ∨ 0x4000 ≤ off

/-- The test of R59 refuses exactly the bad accesses; of the aligned offsets those above 0x3FFC are those from 0x4000. -/
theorem accessRefusal_ne_none_iff (width : Width) (off : Nat) : accessRefusal width off ≠ none ↔ BadAccess width off := by
  unfold accessRefusal BadAccess
  by_cases hw : width = .w32
  · by_cases ha : off % 4 = 0
    · have hbound : 0x3FFC < off ↔ 0x4000 ≤ off := by omega
      simp [hw, ha, hbound]
    · simp [hw, ha]
  · simp [hw]

/-! ### A write that passes the test has a next state -/

theorem issueCommand_has_next (i : Instr) (f : State → State) (s : State) : ∃ t, issueCommand i f s = .next t := by
  by_cases hb : s.status.busy = true
  · exact ⟨_, issueCommand_busy hb⟩
  · have hidle : s.status.busy = false := by simpa using hb
    by_cases hc : check i s = .noError
    · exact ⟨_, issueCommand_pass hidle hc⟩
    · exact ⟨_, issueCommand_fail hidle hc⟩

theorem acceptCommand_has_next (w : Word) (s : State) : ∃ t, acceptCommand w s = .next t := by
  unfold acceptCommand
  split
  · rw [exec_eq_issue]
    exact issueCommand_has_next _ _ s
  · exact ⟨_, rfl⟩

theorem writeReg_has_next (r : Reg) (v : Word) (s : State) : ∃ t, writeReg r v s = .next t := by
  cases r
  case cmd => exact acceptCommand_has_next v s
  all_goals exact ⟨_, rfl⟩

theorem memWrite_has_next (off : Nat) (v : Word) (s : State) : ∃ t, memWrite off v s = .next t := by
  unfold memWrite
  split
  · exact ⟨_, rfl⟩
  · split
    · exact ⟨_, rfl⟩
    · split
      · exact ⟨_, rfl⟩
      · exact writeReg_has_next _ v s

/-! ### The refused statements, host steps and steps -/

theorem hostStatement_wr_refused_iff (off : Nat) (width : Width) (v : Word) (rest : List HostStmt) (s : State) :
    (∃ r, hostStatement (.wr off width v) rest s = .refused r) ↔ BadAccess width off := by
  rw [← accessRefusal_ne_none_iff]
  obtain ⟨t, ht⟩ := memWrite_has_next off v { s with program := rest }
  cases ha : accessRefusal width off <;> simp [hostStatement, ha, ht]

theorem hostStatement_rd_refused_iff (off : Nat) (width : Width) (rest : List HostStmt) (s : State) :
    (∃ r, hostStatement (.rd off width) rest s = .refused r) ↔ BadAccess width off := by
  rw [← accessRefusal_ne_none_iff]
  cases ha : accessRefusal width off <;> simp [hostStatement, ha]

theorem hostStatement_wait_not_refused (rest : List HostStmt) (s : State) (r : Refusal) :
    hostStatement .wait rest s ≠ .refused r := by
  unfold hostStatement
  dsimp only
  split <;> simp

/-- A host step is refused exactly for a bad access at the head of the program. -/
theorem hostStep_refused_iff (s : State) :
    (∃ r, hostStep s = .refused r) ↔ ∃ off width rest,
      ((∃ v, s.program = .wr off width v :: rest) ∨ s.program = .rd off width :: rest) ∧ BadAccess width off := by
  unfold hostStep
  cases s.program with
  | nil => simp
  | cons st rest =>
    cases st with
    | wr off width v => simp [hostStatement_wr_refused_iff]
    | rd off width => simp [hostStatement_rd_refused_iff]
    | wait => simp [hostStatement_wait_not_refused]

/-- The engine and a reset are never refused. -/
theorem step_refused_iff (s : State) :
    (∃ r, step s = .refused r) ↔ turnOf s = .host ∧ ∃ r, hostStep (afterTurn s) = .refused r := by
  rw [step_eq_takeTurn]
  cases turnOf s <;> simp [takeTurn]

/-- Settles O38: only a host turn can be refused, and it is refused exactly when its access fails R59's test. -/
theorem onlyBadAccessesAreRefused : Obligations.OnlyBadAccessesAreRefused := by
  intro s
  rw [step_refused_iff, hostStep_refused_iff]
  rfl

end Sys2Proof.Machine
end

section
/-! O3: which words decode to ILLEGAL (spec/30_encoding.md R80, R84, R85) and what writing one to CMD does
(spec/60_exceptions.md R208). `decode` tests whole words and masked words, `legalWord` tests fields; a word is its six fields, so
each test of `decode` is a condition on fields, and the six conditions together are `legalWord`, one for each defined OP. -/

namespace Sys2Proof

/-- R80's format: a word is OP, bits 7:4, COST, bits 15:13, the two source bits and bits 31:18. -/
theorem word_eq_iff_fields (v w : Word) : v = w ↔
    v.extractLsb' 0 4 = w.extractLsb' 0 4 ∧ v.extractLsb' 4 4 = w.extractLsb' 4 4 ∧
    v.extractLsb' 8 5 = w.extractLsb' 8 5 ∧ v.extractLsb' 13 3 = w.extractLsb' 13 3 ∧
    v.extractLsb' 16 2 = w.extractLsb' 16 2 ∧ v.extractLsb' 18 14 = w.extractLsb' 18 14 := by
  simp only [← BitVec.toNat_inj, BitVec.extractLsb'_toNat, Nat.shiftRight_eq_div_pow]
  omega

/-! ### The grounds of R85, as conditions on fields -/

theorem opDefined_iff (w : Word) : opDefined w = true ↔ w.extractLsb' 0 4 = 0 ∨ w.extractLsb' 0 4 = 1 ∨
    w.extractLsb' 0 4 = 2 ∨ w.extractLsb' 0 4 = 3 ∨ w.extractLsb' 0 4 = 4 ∨ w.extractLsb' 0 4 = 5 := by
  unfold opDefined
  generalize w.extractLsb' 0 4 = op
  revert op
  decide

theorem reservedZero_iff (w : Word) : reservedZero w = true ↔
    w.extractLsb' 4 4 = 0 ∧ w.extractLsb' 13 3 = 0 ∧ w.extractLsb' 18 14 = 0 := by
  simp [reservedZero, and_assoc]

theorem costFieldUsed_iff (w : Word) : costFieldUsed w = true ↔ w.extractLsb' 0 4 = 3 ∨ w.extractLsb' 8 5 = 0 := by
  simp [costFieldUsed]

theorem sourceFieldsUsed_iff (w : Word) :
    sourceFieldsUsed w = true ↔ w.extractLsb' 0 4 = 2 ∨ w.extractLsb' 16 2 = 0 := by
  simp [sourceFieldsUsed]

theorem legalWord_iff (w : Word) : legalWord w = true ↔
    opDefined w = true ∧ reservedZero w = true ∧ costFieldUsed w = true ∧ sourceFieldsUsed w = true := by
  simp [legalWord, and_assoc]

/-! ### The tests of `decode`, as conditions on fields -/

theorem extractLsb'_and_of_allOnes {m : Word} {start len : Nat} (h : m.extractLsb' start len = BitVec.allOnes len)
    (w : Word) : (w &&& m).extractLsb' start len = w.extractLsb' start len := by
  rw [BitVec.extractLsb'_and, h, BitVec.and_allOnes]

theorem extractLsb'_and_of_zero {m : Word} {start len : Nat} (h : m.extractLsb' start len = 0) (w : Word) :
    (w &&& m).extractLsb' start len = 0 := by
  rw [BitVec.extractLsb'_and, h]
  exact BitVec.and_zero

/-- The test of a command without operands: the word is its OP alone. -/
theorem eq_op_iff (w : Word) (op : BitVec 4) : w = op.setWidth 32 ↔
    w.extractLsb' 0 4 = op ∧ reservedZero w = true ∧ w.extractLsb' 8 5 = 0 ∧ w.extractLsb' 16 2 = 0 := by
  have hop : (op.setWidth 32).extractLsb' 0 4 = op := by
    revert op
    decide
  have hrest : (op.setWidth 32).extractLsb' 4 4 = 0 ∧ (op.setWidth 32).extractLsb' 8 5 = 0 ∧
      (op.setWidth 32).extractLsb' 13 3 = 0 ∧ (op.setWidth 32).extractLsb' 16 2 = 0 ∧
      (op.setWidth 32).extractLsb' 18 14 = 0 := by
    revert op
    decide
  rw [word_eq_iff_fields, reservedZero_iff, hop]
  simp only [hrest]
  tauto

/-- EXPAND's test: the mask leaves `KSRC` and `SSRC` free. -/
theorem expand_mask_iff (w : Word) : w &&& 0xFFFCFFFF = 0x00000002 ↔
    w.extractLsb' 0 4 = 2 ∧ reservedZero w = true ∧ w.extractLsb' 8 5 = 0 := by
  rw [word_eq_iff_fields, reservedZero_iff]
  simp (disch := decide) only [extractLsb'_and_of_allOnes, extractLsb'_and_of_zero]
  exact ⟨fun ⟨hop, hlow, hcost, hmid, _, hhigh⟩ => ⟨hop, ⟨hlow, hmid, hhigh⟩, hcost⟩,
    fun ⟨hop, ⟨hlow, hmid, hhigh⟩, hcost⟩ => ⟨hop, hlow, hcost, hmid, rfl, hhigh⟩⟩

/-- EKS's test: the mask leaves `COST` free. -/
theorem eks_mask_iff (w : Word) : w &&& 0xFFFFE0FF = 0x00000003 ↔
    w.extractLsb' 0 4 = 3 ∧ reservedZero w = true ∧ w.extractLsb' 16 2 = 0 := by
  rw [word_eq_iff_fields, reservedZero_iff]
  simp (disch := decide) only [extractLsb'_and_of_allOnes, extractLsb'_and_of_zero]
  exact ⟨fun ⟨hop, hlow, _, hmid, hsrc, hhigh⟩ => ⟨hop, ⟨hlow, hmid, hhigh⟩, hsrc⟩,
    fun ⟨hop, ⟨hlow, hmid, hhigh⟩, hsrc⟩ => ⟨hop, hlow, rfl, hmid, hsrc, hhigh⟩⟩

/-- One of the tests of R84 holds of the word. -/
def PassesDecodeTest (w : Word) : Prop :=
  w = 0x00000000 ∨ w = 0x00000001 ∨ w &&& 0xFFFCFFFF = 0x00000002 ∨ w &&& 0xFFFFE0FF = 0x00000003 ∨
    w = 0x00000004 ∨ w = 0x00000005

theorem decode_eq_illegal_iff (w : Word) : decode w = .illegal ↔ ¬PassesDecodeTest w := by
  unfold decode PassesDecodeTest
  split_ifs <;> simp_all

/-- EXPAND's test frees the source bits and EKS's test frees `COST`, the fields their OPs use; the other four free none. -/
theorem passesDecodeTest_iff_legalWord (w : Word) : PassesDecodeTest w ↔ legalWord w = true := by
  have hnop : w = 0x00000000 ↔ _ := eq_op_iff w 0
  have hinit : w = 0x00000001 ↔ _ := eq_op_iff w 1
  have hencrypt : w = 0x00000004 ↔ _ := eq_op_iff w 4
  have hdigest : w = 0x00000005 ↔ _ := eq_op_iff w 5
  rw [PassesDecodeTest, hnop, hinit, expand_mask_iff, eks_mask_iff, hencrypt, hdigest,
    legalWord_iff, opDefined_iff, costFieldUsed_iff, sourceFieldsUsed_iff]
  by_cases hexpand : w.extractLsb' 0 4 = 2
  · simp [hexpand]
  · by_cases heks : w.extractLsb' 0 4 = 3
    · simp [heks]
    · simp only [hexpand, heks, false_and, false_or, or_and_right]

/-- R85: the words `decode` answers ILLEGAL to are those that a ground of R85 rejects. -/
theorem decode_eq_illegal_iff_not_legalWord (w : Word) : decode w = .illegal ↔ legalWord w = false := by
  rw [decode_eq_illegal_iff, passesDecodeTest_iff_legalWord, Bool.not_eq_true]

end Sys2Proof

namespace Sys2Proof.Machine

/-! ### A write to CMD -/

theorem memWrite_cmd {s : State} (h : s.status.busy = false) (w : Word) : memWrite 0x0000 w s = acceptCommand w s := by
  simp [memWrite, h, regAt, writeReg]

theorem acceptCommand_illegal {w : Word} (h : decode w = .illegal) (s : State) :
    acceptCommand w s = .next (rejectIllegal w s) := by
  simp [acceptCommand, h]

/-- Settles O3: the tests of `decode` and the grounds of R85 are one condition on the word's fields; the write to CMD is
acceptance, which rejects the word; an EKS word is the encoding of a command at every cost. -/
theorem illegalWordsAreRejected : Obligations.IllegalWordsAreRejected := by
  refine ⟨decode_eq_illegal_iff_not_legalWord, ?reject, ?eks⟩
  case reject =>
    intro w s hidle hw
    rw [memWrite_cmd hidle, acceptCommand_illegal hw]
    rfl
  case eks =>
    intro c _
    exact (Laws.EncodesLegally.eks c).1

end Sys2Proof.Machine
end

section
/-! O6, O12, O13, O14, O15: how the acceptance of a command ends while idle (spec/60_exceptions.md R200 to R210). The check alone
decides it: with no error the command starts and ERRCODE is 0, with an error the acceptance is `errorEnd` of the check's code. So
each error code is a statement about `check`, and `check` answers each code under one condition on its three tests. -/

namespace Sys2Proof

/-! ### The word of NOP -/

theorem decode_eq_nop_iff (w : Word) : decode w = .command .nop ↔ w = 0x00000000 := by
  unfold decode
  split_ifs <;> simp_all

/-- R207: with OP 0 no field is used, so a legal word has every field 0. -/
theorem eq_zero_of_legalWord {w : Word} (hop : w.extractLsb' 0 4 = 0) (h : legalWord w = true) : w = 0 := by
  obtain ⟨-, hreserved, hcost, hsource⟩ := (legalWord_iff w).1 h
  have hcost : w.extractLsb' 8 5 = 0 := by simpa [hop] using (costFieldUsed_iff w).1 hcost
  have hsource : w.extractLsb' 16 2 = 0 := by simpa [hop] using (sourceFieldsUsed_iff w).1 hsource
  exact (eq_op_iff w 0).2 ⟨hop, hreserved, hcost, hsource⟩

theorem decode_illegal_of_op_zero {w : Word} (hop : w.extractLsb' 0 4 = 0) (hw : w ≠ 0) : decode w = .illegal := by
  rw [decode_eq_illegal_iff_not_legalWord, ← Bool.not_eq_true]
  exact fun hlegal => hw (eq_zero_of_legalWord hop hlegal)

end Sys2Proof

namespace Sys2Proof.Machine

/-! ### The check, code by code -/

theorem check_eq_tablesNotValid_iff (i : Instr) (s : State) :
    check i s = .tablesNotValid ↔ needsTables i = true ∧ s.status.tv = false := by
  unfold check
  split_ifs <;> simp_all

theorem check_eq_invalidCost_iff (i : Instr) (s : State) :
    check i s = .invalidCost ↔ (needsTables i = true → s.status.tv = true) ∧ costWrong i = true := by
  unfold check
  split_ifs <;> simp_all

theorem check_eq_invalidSaltLength_iff (i : Instr) (s : State) :
    check i s = .invalidSaltLength ↔
      (needsTables i = true → s.status.tv = true) ∧ costWrong i = false ∧ saltLengthWrong i s.saltLen = true := by
  unfold check
  split_ifs <;> simp_all

/-! ### The acceptance while idle, as the check decides it -/

theorem exec_of_check_eq {i : Instr} {c : ErrCode} {s : State} (hidle : Idle s) (hc : check i s = c) (herr : c ≠ .noError) :
    exec i s = .next (errorEnd i c s) := by
  subst hc
  rw [exec_eq_issue, issueCommand_fail hidle herr]
  rfl

/-- Everything the acceptance of a command can do while idle. -/
theorem exec_idle_cases {i : Instr} {s t : State} (hidle : Idle s) (h : exec i s = .next t) :
    (check i s = .noError ∧ t = startOf i (acceptWord (encode i) s)) ∨
      (check i s ≠ .noError ∧ t = errorEnd i (check i s) s) := by
  rw [exec_eq_issue] at h
  obtain ⟨hbusy, -⟩ | ⟨-, hpass, ht⟩ | ⟨-, hfail, ht⟩ := issueCommand_cases h
  · simp [hidle] at hbusy
  · exact .inl ⟨hpass, ht⟩
  · exact .inr ⟨hfail, ht⟩

/-- No start of a command records an error: acceptance has cleared the last one. -/
theorem startOf_acceptWord_noError (i : Instr) (w : Word) (s : State) :
    (startOf i (acceptWord w s)).status.err = false ∧ (startOf i (acceptWord w s)).status.errCode = .noError := by
  cases i <;> exact ⟨rfl, rfl⟩

/-- The acceptance ends with exactly the code of the check. -/
theorem exec_idle_errCode {i : Instr} {s t : State} (hidle : Idle s) (h : exec i s = .next t) :
    t.status.errCode = check i s := by
  obtain ⟨hpass, rfl⟩ | ⟨-, rfl⟩ := exec_idle_cases hidle h
  · rw [hpass]
    exact (startOf_acceptWord_noError i _ s).2
  · rfl

/-! ### The obligations -/

/-- Settles O6: NOP has no check, and its start is the normal completion, which leaves TV. -/
theorem nopCompletesAtOnce : Obligations.NopCompletesAtOnce := by
  refine ⟨decode_eq_nop_iff, fun w => decode_illegal_of_op_zero, fun s hidle => ?accept⟩
  case accept =>
    rw [exec_eq_issue, issueCommand_pass hidle rfl]
    rfl

/-- Settles O12: the table check comes first and is made of EXPAND, ENCRYPT and DIGEST only. -/
theorem tablesNotValidIsRaised : Obligations.TablesNotValidIsRaised := by
  refine ⟨fun s i hidle htv hi => ?raised, fun s t i hidle hi h => ?never⟩
  case raised =>
    have hneeds : needsTables i = true := by obtain ⟨k, z, rfl⟩ | rfl | rfl := hi <;> rfl
    exact exec_of_check_eq hidle ((check_eq_tablesNotValid_iff i s).2 ⟨hneeds, htv⟩) (by decide)
  case never =>
    have hneeds : needsTables i = false := by obtain rfl | rfl | ⟨c, rfl⟩ := hi <;> rfl
    rw [exec_idle_errCode hidle h, ne_eq, check_eq_tablesNotValid_iff]
    simp [hneeds]

/-- Settles O13: EKS has no table check, and its cost check is the lower bound alone. -/
theorem invalidCostIsRaised : Obligations.InvalidCostIsRaised := by
  refine ⟨fun s c hidle hlow => ?raised, fun s t c hidle hlegal h => ?never⟩
  case raised =>
    have hcost : costWrong (.eks c) = true := decide_eq_true hlow
    exact exec_of_check_eq hidle ((check_eq_invalidCost_iff _ s).2 ⟨nofun, hcost⟩) (by decide)
  case never =>
    have hcost : costWrong (.eks c) = false := decide_eq_false (Nat.not_lt.2 hlegal)
    rw [exec_idle_errCode hidle h, ne_eq, check_eq_invalidCost_iff]
    simp [hcost]

/-- Settles O14: with the earlier checks passed, the salt length check decides; EXPAND of the key buffer with the zero salt does
not read the salt buffer. -/
theorem invalidSaltLengthIsRaised : Obligations.InvalidSaltLengthIsRaised := by
  refine ⟨fun s c hidle hlegal hlen => ?eks, fun s k z hidle htv hsrc hlen => ?expand, fun s t hidle h => ?never⟩
  case eks =>
    have hcost : costWrong (.eks c) = false := decide_eq_false (Nat.not_lt.2 hlegal)
    have hsalt : saltLengthWrong (.eks c) s.saltLen = true := decide_eq_true hlen
    exact exec_of_check_eq hidle ((check_eq_invalidSaltLength_iff _ s).2 ⟨nofun, hcost, hsalt⟩) (by decide)
  case expand =>
    have hsalt : saltLengthWrong (.expand k z) s.saltLen = true := by
      simp [saltLengthWrong, readsSaltBuffer, hsrc, hlen]
    exact exec_of_check_eq hidle ((check_eq_invalidSaltLength_iff _ s).2 ⟨fun _ => htv, rfl, hsalt⟩) (by decide)
  case never =>
    have hsalt : saltLengthWrong (.expand .keyBuffer .zero) s.saltLen = false := rfl
    rw [exec_idle_errCode hidle h, ne_eq, check_eq_invalidSaltLength_iff]
    simp [hsalt]

/-- Settles O15: an acceptance that ends with ERR = 1 did not start the command, so it is the `errorEnd` of the check's code. -/
theorem failedCommandChangesOnlyStatus : Obligations.FailedCommandChangesOnlyStatus := by
  intro i s t hidle h herr
  obtain ⟨-, rfl⟩ | ⟨hfail, rfl⟩ := exec_idle_cases hidle h
  · simp [startOf_acceptWord_noError] at herr
  · exact ⟨hfail, rfl⟩

end Sys2Proof.Machine
end

section
/-! O33: writes while busy (spec/70_reset_and_hazards.md R250; spec/10_state.md R37). The test of STATUS's offset comes before the
test of BUSY, and the register map is read only while idle: a busy write is dropped whatever stands at its offset. -/

namespace Sys2Proof.Machine

theorem memWrite_status (v : Word) (s : State) : memWrite 0x0004 v s = .next (writeStatus v s) :=
  if_pos rfl

theorem memWrite_busy {s : State} (hb : s.status.busy = true) {off : Nat} (hoff : off ≠ 0x0004) (v : Word) :
    memWrite off v s = .next (dropWrite s) := by
  rw [memWrite, if_neg hoff, if_pos hb]

/-- R37: a write to STATUS changes OVERRUN alone, busy or idle. -/
theorem writeStatus_eq_set_overrun (v : Word) (s : State) :
    writeStatus v s = { s with
      status := { s.status with overrun := if v.getLsbD 3 then false else s.status.overrun } } := by
  unfold writeStatus
  split <;> rfl

/-- Settles O33: any offset but that of STATUS reaches the drop before the register map, and the write to STATUS is R37's at any
time. -/
theorem busyWritesAreDropped : Obligations.BusyWritesAreDropped := by
  refine fun s off v hb => ⟨fun hoff => ?dropped, ?status⟩
  case dropped => exact memWrite_busy hb hoff v
  case status => rw [memWrite_status, writeStatus_eq_set_overrun]

end Sys2Proof.Machine
end

section
/-! O2: `decode` and `encode` are inverse (spec/30_encoding.md R84, R89). The two masked tests of `decode` fix every field of the
word but those they free, and these are the operands `decode` reads: the word is determined by the command. -/

namespace Sys2Proof

theorem decode_encode (i : Instr) : decode (encode i) = .command i := by
  cases i with
  | nop => rfl
  | init => rfl
  | expand k z => cases k <;> cases z <;> decide
  | eks c =>
    revert c
    decide
  | encrypt => rfl
  | digest => rfl

theorem getLsbD_sourceField (w : Word) :
    w.getLsbD 16 = (w.extractLsb' 16 2).getLsbD 0 ∧ w.getLsbD 17 = (w.extractLsb' 16 2).getLsbD 1 := by
  simp

theorem eq_encode_expand_of_mask {w : Word} (h : w &&& 0xFFFCFFFF = 0x00000002) :
    w = encode (.expand (keySrcOfBit (w.getLsbD 16)) (saltSrcOfBit (w.getLsbD 17))) := by
  obtain ⟨hop, hreserved, hcost⟩ := (expand_mask_iff w).1 h
  obtain ⟨hlow, hmid, hhigh⟩ := (reservedZero_iff w).1 hreserved
  rw [word_eq_iff_fields, hop, hlow, hcost, hmid, hhigh, (getLsbD_sourceField w).1, (getLsbD_sourceField w).2]
  generalize w.extractLsb' 16 2 = source
  revert source
  decide

theorem encode_eks_fields (c : BitVec 5) :
    (encode (.eks c)).extractLsb' 0 4 = 3 ∧ (encode (.eks c)).extractLsb' 4 4 = 0 ∧ (encode (.eks c)).extractLsb' 8 5 = c ∧
      (encode (.eks c)).extractLsb' 13 3 = 0 ∧ (encode (.eks c)).extractLsb' 16 2 = 0 ∧
      (encode (.eks c)).extractLsb' 18 14 = 0 := by
  revert c
  decide

theorem eq_encode_eks_of_mask {w : Word} (h : w &&& 0xFFFFE0FF = 0x00000003) : w = encode (.eks (w.extractLsb' 8 5)) := by
  obtain ⟨hop, hreserved, hsource⟩ := (eks_mask_iff w).1 h
  obtain ⟨hlow, hmid, hhigh⟩ := (reservedZero_iff w).1 hreserved
  rw [word_eq_iff_fields]
  simp only [encode_eks_fields, hop, hlow, hmid, hsource, hhigh, and_self]

theorem eq_encode_of_decode {w : Word} {i : Instr} (h : decode w = .command i) : w = encode i := by
  unfold decode at h
  split_ifs at h with hnop hinit hexpand heks hencrypt hdigest <;> cases h
  · exact hnop
  · exact hinit
  · exact eq_encode_expand_of_mask hexpand
  · exact eq_encode_eks_of_mask heks
  · exact hencrypt
  · exact hdigest

/-- Settles O2: `decode` inverts `encode` command by command, and the tests of `decode` leave no second word. -/
theorem decodeAndEncodeAreInverse : Obligations.DecodeAndEncodeAreInverse :=
  fun _ i => ⟨eq_encode_of_decode, fun h => h ▸ decode_encode i⟩

end Sys2Proof
end

section
/-! O9, O10: running EXPAND and EKS to their completion (spec/42_key_schedule.md R145 to R152). A run of engine steps is counted
together with the block encryptions it makes, so that one induction over EKS's repetitions gives the tables, the number of steps
and the work. -/

namespace Sys2Proof.Machine

/-! ### Runs of the engine -/

/-- `steps` engine steps lead from `u` to `v`, make `work` block encryptions, and no state before `v` has another STATUS. -/
structure Runs (u : State) (steps work : Nat) (v : State) : Prop where
  reaches : engineStep^[steps] u = v
  stays : ∀ k, k < steps → (engineStep^[k] u).status = u.status
  worked : encryptionsDone steps u = work

theorem encryptionsDone_add (m n : Nat) (u : State) :
    encryptionsDone (m + n) u = encryptionsDone m u + encryptionsDone n (engineStep^[m] u) := by
  induction m generalizing u with
  | zero => simp [encryptionsDone]
  | succ m ih =>
    rw [Nat.succ_add, Function.iterate_succ_apply]
    simp only [encryptionsDone, ih, Nat.add_assoc]

theorem encryptionsDone_succ (n : Nat) (u : State) :
    encryptionsDone (n + 1) u = encryptionsDone n u + stepEncryptions (engineStep^[n] u) := by
  rw [encryptionsDone_add]
  rfl

theorem Runs.refl (u : State) : Runs u 0 0 u := ⟨rfl, nofun, rfl⟩

theorem Runs.single (u : State) : Runs u 1 (stepEncryptions u) (engineStep u) := by
  refine ⟨rfl, fun k hk => ?_, rfl⟩
  obtain rfl : k = 0 := by omega
  rfl

theorem Runs.trans {u v w : State} {m n a b : Nat} (h : Runs u m a v) (hv : v.status = u.status) (h' : Runs v n b w) :
    Runs u (m + n) (a + b) w := by
  have later (k : Nat) : engineStep^[m + k] u = engineStep^[k] v := by
    rw [Nat.add_comm, Function.iterate_add_apply, h.reaches]
  refine ⟨(later n).trans h'.reaches, fun k hk => ?_, ?_⟩
  · by_cases hkm : k < m
    · exact h.stays k hkm
    · obtain ⟨j, rfl⟩ := Nat.exists_eq_add_of_le (Nat.le_of_not_lt hkm)
      rw [later, h'.stays j (by omega), hv]
  · rw [encryptionsDone_add, h.reaches, h.worked, h'.worked]

/-! ### One expansion -/

/-- `s` with an expansion at its end: the tables `t` and the running block `b` are left. -/
def expansionEnd (t : Tables) (b : Block) (s : State) : State :=
  { s with tables := t, seq := { s.seq with block := b, ko := 72, so := 4168, phase := .encrypt 520 } }

/-- The block encryptions of an XStep from a position (42_key_schedule.md R152). -/
def xstepWork : XPhase → Nat
  | .keyXor _ => 0
  | .encrypt _ => 1

theorem xstepWork_run {s : State} (h : AtStart s.seq) {k : Nat} (hk : k ≤ 538) :
    xstepWork (expansionStep^[k] s).seq.phase = if k < 18 then 0 else 1 := by
  by_cases hkey : k < 18
  · rw [expansionStep_key_run s h.1 h.2.1 k (by omega)]
    simp [keyPosition, hkey, xstepWork]
  · obtain ⟨j, rfl⟩ := Nat.exists_eq_add_of_le (Nat.le_of_not_lt hkey)
    rw [expansionStep_run h (by omega)]
    simp [pairPosition, xstepWork]

theorem expansionStep_iterate_status (k : Nat) (s : State) : (expansionStep^[k] s).status = s.status := by
  induction k with
  | zero => rfl
  | succ k ih => rw [Function.iterate_succ_apply', expansionStep_status, ih]

/-- A stage whose engine steps are XSteps and that does `finish` with the last one runs an expansion in 539 steps and 521 block
encryptions. `C` is what the stage's engine steps keep. -/
theorem expansion_runs {C : State → Prop} {finish : State → State} (keeps : ∀ u, C u → C (expansionStep u))
    (runs : ∀ u, C u → engineStep u = if lastPair u.seq.phase then finish (expansionStep u) else expansionStep u)
    (counts : ∀ u, C u → stepEncryptions u = xstepWork u.seq.phase) {s : State} (hC : C s) (h : AtStart s.seq) :
    ∃ b, Runs s 539 521
      (finish (expansionEnd (expandTables (keyOperand s.seq.ksrc s) (saltOperand s.seq.ssrc s) s.tables) b s)) := by
  obtain ⟨before, last⟩ := engineStep_expansion keeps runs hC h
  have work : ∀ k, k ≤ 539 → encryptionsDone k s = k - 18 := by
    intro k
    induction k with
    | zero => exact fun _ => rfl
    | succ k ih =>
      intro hk
      rw [encryptionsDone_succ, ih (by omega), before k (by omega), counts _ (Function.Iterate.rec C hC keeps k),
        xstepWork_run h (by omega)]
      split <;> omega
  refine ⟨_, last.trans (congrArg finish (expansionStep_all h)), fun k hk => ?_, work 539 (by omega)⟩
  rw [before k (by omega), expansionStep_iterate_status]

/-- An XStep changes the tables and its position in the expansion, and nothing else. -/
theorem expansionStep_frame (s : State) :
    expansionStep s = { s with
      tables := (expansionStep s).tables,
      seq := { s.seq with ko := (expansionStep s).seq.ko, so := (expansionStep s).seq.so,
                          block := (expansionStep s).seq.block, phase := (expansionStep s).seq.phase } } := by
  unfold expansionStep
  split <;> rfl

theorem expansionStep_op (s : State) : (expansionStep s).seq.op = s.seq.op := by rw [expansionStep_frame]

theorem expansionStep_stage (s : State) : (expansionStep s).seq.stage = s.seq.stage := by rw [expansionStep_frame]

/-! ### EXPAND -/

theorem expand_runs {s : State} (hb : s.status.busy = true) (hop : s.seq.op = .expand) (h : AtStart s.seq) :
    ∃ b, Runs s 539 521 (completeCommand false
      (expansionEnd (expandTables (keyOperand s.seq.ksrc s) (saltOperand s.seq.ssrc s) s.tables) b s)) := by
  refine expansion_runs (C := fun u => u.status.busy = true ∧ u.seq.op = .expand) ?keeps ?runs ?counts ⟨hb, hop⟩ h
  case keeps => exact fun u hu => by rwa [expansionStep_status, expansionStep_op]
  case runs => exact fun u ⟨hb, hop⟩ => by simp [engineStep, hb, hop, expandStep]
  case counts =>
    intro u ⟨hb, hop⟩
    cases hp : u.seq.phase <;> simp [stepEncryptions, xstepWork, hb, hop, hp]

/-- The checks of EXPAND (60_exceptions.md R202, R203). -/
theorem check_expand {k : KeySrc} {z : SaltSrc} {s : State} (htv : s.status.tv = true)
    (hlen : (k = .saltBuffer ∨ z = .saltBuffer) → s.saltLen.toNat ≤ 16) : check (.expand k z) s = .noError := by
  have hsalt : saltLengthWrong (.expand k z) s.saltLen = false := by
    simpa [saltLengthWrong, readsSaltBuffer] using hlen
  simp [check, htv, costWrong, hsalt]

theorem exec_of_check {i : Instr} {s : State} (hidle : Idle s) (hc : check i s = .noError) :
    exec i s = .next (startOf i (acceptWord (encode i) s)) := by
  rw [exec_eq_issue, issueCommand_pass hidle hc]

/-- The STATUS of every command right after its acceptance, but for NOP's. -/
theorem startOf_status {i : Instr} (hi : i ≠ .nop) (w : Word) (s : State) :
    (startOf i (acceptWord w s)).status = startedStatus s.status := by
  cases i
  case nop => exact absurd rfl hi
  all_goals rfl

/-- The whole run of an accepted EXPAND. -/
theorem startExpand_runs (k : KeySrc) (z : SaltSrc) (s : State) :
    ∃ q, Runs (startOf (.expand k z) (acceptWord (encode (.expand k z)) s)) 539 521 { s with
      tables := expandTables (keyOperand k s) (saltOperand z s) s.tables,
      cmd := encode (.expand k z), status := completedStatus s.status s.status.tv, seq := q } := by
  have hkey : keyOperand k (startExpand k z (acceptWord (encode (.expand k z)) s)) = keyOperand k s := by cases k <;> rfl
  have hsalt : saltOperand z (startExpand k z (acceptWord (encode (.expand k z)) s)) = saltOperand z s := by
    cases z <;> rfl
  obtain ⟨b, h⟩ := expand_runs (s := startExpand k z (acceptWord (encode (.expand k z)) s)) rfl rfl
    (startExpansion_atStart _ _ _)
  simp only [startExpand_seq, startExpansion_ksrc, startExpansion_ssrc, startExpand_tables, acceptWord_tables, hkey,
    hsalt] at h
  generalize expandTables (keyOperand k s) (saltOperand z s) s.tables = expanded at h ⊢
  exact ⟨_, h⟩

/-- Settles O9: the checks pass, and the run of EXPAND is one expansion with the operands of the state it was issued on. -/
theorem expandExpandsTables : Obligations.ExpandExpandsTables := by
  intro s k z hidle htv hlen
  obtain ⟨q, hrun⟩ := startExpand_runs k z s
  refine ⟨_, exec_of_check hidle (check_expand htv hlen), fun n hn => ?busy, q, ?done⟩
  case busy => rw [hrun.stays n hn, startOf_status (i := .expand k z) nofun]
  case done => rw [hrun.reaches, htv]

/-! ### EKS -/

/-- `2^cost` fits the 32-bit repetition count. -/
theorem two_pow_cost_le (c : BitVec 5) : 2 ^ c.toNat ≤ 2 ^ 31 := Nat.pow_le_pow_right (by omega) (by omega)

/-- A run of EKS begun on `b` is about to expand the tables `t`, in stage `st` with `i` repetitions done. -/
structure EksAt (b : State) (st : EksStage) (i : BitVec 32) (k : KeySrc) (z : SaltSrc) (t : Tables) (u : State) : Prop where
  frame : u = { b with tables := t, seq := u.seq }
  op : u.seq.op = .eks
  cost : u.seq.cost = b.seq.cost
  stage : u.seq.stage = st
  iter : u.seq.iter = i
  ksrc : u.seq.ksrc = k
  ssrc : u.seq.ssrc = z
  start : AtStart u.seq

section EksStages
variable {b u : State} {st : EksStage} {i : BitVec 32} {k : KeySrc} {z : SaltSrc} {t : Tables}

theorem EksAt.status (h : EksAt b st i k z t u) : u.status = b.status := by rw [h.frame]

theorem EksAt.expansionEnd_eq (h : EksAt b st i k z t u) (t' : Tables) (blk : Block) :
    expansionEnd t' blk u = { b with tables := t', seq := (expansionEnd t' blk u).seq } := by
  conv_lhs => rw [h.frame]
  rfl

/-- An EKS stage that does `finish` with the last XStep runs one expansion, with the operands of `b`. -/
theorem EksAt.runs {finish : State → State} (h : EksAt b st i k z t u) (hb : b.status.busy = true) (hst : st ≠ .s1)
    (runs : ∀ v, v.seq.stage = st →
      eksStep v = if lastPair v.seq.phase then finish (expansionStep v) else expansionStep v)
    {t' : Tables} (ht' : expandTables (keyOperand k b) (saltOperand z b) t = t') :
    ∃ blk, Runs u 539 521 (finish (expansionEnd t' blk u)) := by
  have hkey : keyOperand u.seq.ksrc u = keyOperand k b := by rw [h.ksrc, h.frame, keyOperand_tables_seq]
  have hsalt : saltOperand u.seq.ssrc u = saltOperand z b := by rw [h.ssrc, h.frame, saltOperand_tables_seq]
  have ht : u.tables = t := by rw [h.frame]
  have hrun := expansion_runs (finish := finish)
    (C := fun v => v.status.busy = true ∧ v.seq.op = .eks ∧ v.seq.stage = st) ?keeps ?runs ?counts
    ⟨by rw [h.status, hb], h.op, h.stage⟩ h.start
  case keeps => exact fun v hv => by rwa [expansionStep_status, expansionStep_op, expansionStep_stage]
  case runs => exact fun v ⟨hb, hop, hv⟩ => by simp [engineStep, hb, hop, runs v hv]
  case counts =>
    intro v ⟨hb, hop, hv⟩
    cases st <;> cases hp : v.seq.phase <;> simp_all [stepEncryptions, xstepWork]
  rwa [hkey, hsalt, ht, ht'] at hrun

theorem eksAt_s1 {b : State} (hb : b.status.busy = true) (hop : b.seq.op = .eks) (hst : b.seq.stage = .s1) :
    ∃ u, Runs b 1 0 u ∧ EksAt b .s2 b.seq.iter .keyBuffer .saltBuffer initTables u := by
  have hwork : stepEncryptions b = 0 := by simp [stepEncryptions, hb, hop, hst]
  have hstep : engineStep b =
      { b with tables := initTables, seq := startExpansion .keyBuffer .saltBuffer { b.seq with stage := .s2 } } := by
    simp [engineStep, eksStep, hb, hop, hst]
  refine ⟨engineStep b, hwork ▸ Runs.single b, ?_⟩
  rw [hstep]
  exact ⟨rfl, hop, rfl, rfl, rfl, rfl, rfl, startExpansion_atStart _ _ _⟩

theorem EksAt.s2 (h : EksAt b .s2 i .keyBuffer .saltBuffer t u) (hb : b.status.busy = true) :
    ∃ v, Runs u 539 521 v ∧ EksAt b .s3a 0 .keyBuffer .zero (expandTables (keyBytes b) (saltBytes b) t) v := by
  generalize ht' : expandTables (keyBytes b) (saltBytes b) t = t'
  obtain ⟨blk, hrun⟩ := h.runs (finish := enterStage3) hb nofun (fun v hv => by simp [eksStep, hv]) ht'
  refine ⟨_, hrun, ?frame, h.op, h.cost, rfl, rfl, rfl, rfl, startExpansion_atStart _ _ _⟩
  rw [enterStage3, h.expansionEnd_eq]

theorem EksAt.s3a (h : EksAt b .s3a i .keyBuffer .zero t u) (hb : b.status.busy = true) :
    ∃ v, Runs u 539 521 v ∧ EksAt b .s3b i .saltBuffer .zero (expandTables (keyBytes b) [] t) v := by
  generalize ht' : expandTables (keyBytes b) [] t = t'
  obtain ⟨blk, hrun⟩ := h.runs (finish := enterStage3b) hb nofun (fun v hv => by simp [eksStep, hv]) ht'
  refine ⟨_, hrun, ?frame, h.op, h.cost, rfl, h.iter, rfl, rfl, startExpansion_atStart _ _ _⟩
  rw [enterStage3b, h.expansionEnd_eq]

/-- The repetition count decides what the end of an expansion in S3B does (42_key_schedule.md R151). -/
theorem endRepetition_last {s : State} (h : s.seq.iter + 1 = BitVec.ofNat 32 (2 ^ s.seq.cost.toNat)) :
    endRepetition s = completeCommand true { s with seq := { s.seq with iter := s.seq.iter + 1 } } := by
  simp only [endRepetition, if_pos h]

theorem endRepetition_next {s : State} (h : s.seq.iter + 1 ≠ BitVec.ofNat 32 (2 ^ s.seq.cost.toNat)) :
    endRepetition s =
      { s with seq := startExpansion .keyBuffer .zero { s.seq with iter := s.seq.iter + 1, stage := .s3a } } := by
  simp only [endRepetition, if_neg h]

theorem EksAt.s3b_last (h : EksAt b .s3b i .saltBuffer .zero t u) (hb : b.status.busy = true)
    (hi : i + 1 = BitVec.ofNat 32 (2 ^ b.seq.cost.toNat)) :
    ∃ q, Runs u 539 521 (completeCommand true { b with tables := expandTables (saltBytes b) [] t, seq := q }) := by
  generalize ht' : expandTables (saltBytes b) [] t = t'
  obtain ⟨blk, hrun⟩ := h.runs (finish := endRepetition) hb nofun (fun v hv => by simp [eksStep, hv]) ht'
  rw [← h.iter, ← h.cost] at hi
  rw [endRepetition_last (s := expansionEnd t' blk u) hi, h.expansionEnd_eq] at hrun
  exact ⟨_, hrun⟩

theorem EksAt.s3b_next (h : EksAt b .s3b i .saltBuffer .zero t u) (hb : b.status.busy = true)
    (hi : i + 1 ≠ BitVec.ofNat 32 (2 ^ b.seq.cost.toNat)) :
    ∃ v, Runs u 539 521 v ∧ EksAt b .s3a (i + 1) .keyBuffer .zero (expandTables (saltBytes b) [] t) v := by
  generalize ht' : expandTables (saltBytes b) [] t = t'
  obtain ⟨blk, hrun⟩ := h.runs (finish := endRepetition) hb nofun (fun v hv => by simp [eksStep, hv]) ht'
  rw [← h.iter, ← h.cost] at hi
  rw [endRepetition_next (s := expansionEnd t' blk u) hi] at hrun
  refine ⟨_, hrun, ?frame, h.op, h.cost, rfl, congrArg (· + 1) h.iter, rfl, rfl, startExpansion_atStart _ _ _⟩
  rw [h.expansionEnd_eq]

/-- The remaining `n + 1` repetitions of stage 3. -/
theorem EksAt.repetitions (hb : b.status.busy = true) : ∀ (n : Nat) (j : Nat) (t : Tables) (u : State),
    EksAt b .s3a (BitVec.ofNat 32 j) .keyBuffer .zero t u → j + (n + 1) = 2 ^ b.seq.cost.toNat →
      ∃ q, Runs u (1078 * (n + 1)) (1042 * (n + 1)) (completeCommand true
        { b with tables := (eksRepetition (keyBytes b) (saltBytes b))^[n + 1] t, seq := q }) := by
  have hpow := two_pow_cost_le b.seq.cost
  have count (j : Nat) : BitVec.ofNat 32 j + 1 = BitVec.ofNat 32 (j + 1) := by
    rw [BitVec.ofNat_add]
    rfl
  intro n
  induction n with
  | zero =>
    intro j t u h hj
    obtain ⟨v, hrun, hv⟩ := h.s3a hb
    obtain ⟨q, hlast⟩ := hv.s3b_last hb (by rw [count, ← hj])
    exact ⟨q, hrun.trans (by rw [hv.status, h.status]) hlast⟩
  | succ n ih =>
    intro j t u h hj
    have hne : BitVec.ofNat 32 j + 1 ≠ BitVec.ofNat 32 (2 ^ b.seq.cost.toNat) := by
      rw [count, ne_eq, ← BitVec.toNat_inj, BitVec.toNat_ofNat, BitVec.toNat_ofNat]
      omega
    obtain ⟨v, hrun, hv⟩ := h.s3a hb
    obtain ⟨w, hrun', hw⟩ := hv.s3b_next hb hne
    rw [count] at hw
    obtain ⟨q, hrest⟩ := ih (j + 1) _ w hw (by omega)
    have hall := (hrun.trans (by rw [hv.status, h.status]) hrun').trans (by rw [hw.status, h.status]) hrest
    rw [show 539 + 539 + 1078 * (n + 1) = 1078 * (n + 1 + 1) by ring,
      show 521 + 521 + 1042 * (n + 1) = 1042 * (n + 1 + 1) by ring] at hall
    exact ⟨q, by rwa [Function.iterate_succ_apply]⟩

/-- The whole run of EKS, from its acceptance. -/
theorem eks_runs (hb : b.status.busy = true) (hop : b.seq.op = .eks) (hst : b.seq.stage = .s1) :
    ∃ q, Runs b (1 + 539 * (1 + 2 ^ (b.seq.cost.toNat + 1))) (521 * (1 + 2 ^ (b.seq.cost.toNat + 1)))
      (completeCommand true { b with tables := eksTables b.seq.cost (keyBytes b) (saltBytes b), seq := q }) := by
  obtain ⟨u, hcopy, hu⟩ := eksAt_s1 hb hop hst
  obtain ⟨v, hmain, hv⟩ := hu.s2 hb
  obtain ⟨n, hn⟩ : ∃ n, n + 1 = 2 ^ b.seq.cost.toNat :=
    ⟨2 ^ b.seq.cost.toNat - 1, Nat.sub_add_cancel Nat.one_le_two_pow⟩
  obtain ⟨q, hreps⟩ := EksAt.repetitions hb n 0 _ v hv (by omega)
  have hall := (hcopy.trans hu.status hmain).trans hv.status hreps
  rw [hn, show 1 + 539 + 1078 * 2 ^ b.seq.cost.toNat = 1 + 539 * (1 + 2 ^ (b.seq.cost.toNat + 1)) by ring,
    show 0 + 521 + 1042 * 2 ^ b.seq.cost.toNat = 521 * (1 + 2 ^ (b.seq.cost.toNat + 1)) by ring] at hall
  exact ⟨q, hall⟩

end EksStages

/-- The checks of EKS (60_exceptions.md R203, R209). -/
theorem check_eks {c : BitVec 5} {s : State} (hc : 4 ≤ c.toNat) (hlen : s.saltLen = 16) :
    check (.eks c) s = .noError := by
  have hcost : costWrong (.eks c) = false := decide_eq_false (Nat.not_lt.2 hc)
  simp [check, needsTables, hcost, saltLengthWrong, hlen]

/-- The whole run of an accepted EKS. -/
theorem startEks_runs (c : BitVec 5) (s : State) :
    ∃ q, Runs (startOf (.eks c) (acceptWord (encode (.eks c)) s)) (engineSteps (.eks c)) (encryptionWork (.eks c)) { s with
      tables := eksTables c (keyBytes s) (saltBytes s),
      cmd := encode (.eks c), status := completedStatus s.status true, seq := q } :=
  eks_runs (b := startEks c (acceptWord (encode (.eks c)) s)) rfl rfl rfl

/-- Settles O10: the checks pass, and the stages of EKS are the expansions of R145. -/
theorem eksSetsUpTables : Obligations.EksSetsUpTables := by
  intro s c hidle hc hlen
  obtain ⟨q, hrun⟩ := startEks_runs c s
  refine ⟨_, exec_of_check hidle (check_eks hc hlen), fun n hn => ?busy, q, hrun.reaches⟩
  rw [hrun.stays n hn, startOf_status (i := .eks c) nofun]

end Sys2Proof.Machine
end

section
/-! O7, O8, O11, O27: INIT, ENCRYPT and DIGEST run to their completion (spec/40_cipher.md R103; spec/41_init_tables.md R120;
spec/43_digest.md R170 to R172). -/

namespace Sys2Proof.Machine

/-! ### INIT and ENCRYPT: one engine step -/

/-- Settles O7: INIT has no check, and its one step is the table copy and the completion. -/
theorem initLoadsTables : Obligations.InitLoadsTables :=
  fun _ hidle => ⟨_, exec_of_check (i := .init) hidle rfl, rfl, rfl⟩

theorem check_of_tv {i : Instr} {s : State} (htv : s.status.tv = true) (hi : i = .encrypt ∨ i = .digest) :
    check i s = .noError := by
  obtain rfl | rfl := hi <;> simp [check, htv, costWrong, saltLengthWrong]

/-- An accepted ENCRYPT after its one engine step. -/
theorem startEncrypt_step (s : State) :
    engineStep (startOf .encrypt (acceptWord (encode .encrypt) s)) = { s with
      dataL := (encryptBlock s.tables ⟨s.dataL, s.dataR⟩).l, dataR := (encryptBlock s.tables ⟨s.dataL, s.dataR⟩).r,
      cmd := encode .encrypt, status := completedStatus s.status s.status.tv, seq := { s.seq with op := .encrypt } } :=
  rfl

/-- Settles O8: with TV = 1 the check passes, and the one step encrypts DATA. -/
theorem encryptEncryptsData : Obligations.EncryptEncryptsData := by
  intro s hidle htv
  refine ⟨_, exec_of_check hidle (check_of_tv htv (.inl rfl)), rfl, ?_⟩
  rw [startEncrypt_step, htv]
  rfl

/-! ### DIGEST: 192 block encryptions -/

/-- The working buffer after `k` block encryptions (43_digest.md R170). -/
def digestBlocks (t : Tables) : Nat → Vector Word 6
  | 0 => ctext
  | k + 1 => digestBlock t (digestBlocks t k) ⟨k % 3, Nat.mod_lt _ (by decide)⟩

/-- Three blocks are one pass. -/
theorem digestBlocks_pass (t : Tables) (n : Nat) : digestBlocks t (3 * n) = (digestPass t)^[n] ctext := by
  induction n with
  | zero => rfl
  | succ n ih =>
    have h0 : 3 * n % 3 = 0 := by omega
    have h1 : (3 * n + 1) % 3 = 1 := by omega
    have h2 : (3 * n + 2) % 3 = 2 := by omega
    rw [Function.iterate_succ_apply', ← ih, Nat.mul_succ]
    simp only [digestBlocks, h0, h1, h2]
    rfl

theorem digestBlocks_all (t : Tables) : digestBlocks t 192 = digestBuffer t := digestBlocks_pass t 64

/-- Where DIGEST stands after `k` of its 192 blocks, begun on `b`. -/
def digestAt (b : State) (k : Nat) : State :=
  { b with seq := { b.seq with
      dw := digestBlocks b.tables k, dblk := ⟨k % 3, Nat.mod_lt _ (by decide)⟩,
      dpass := ⟨k / 3 % 64, Nat.mod_lt _ (by decide)⟩ } }

theorem lastDigestBlock_digestAt (b : State) {k : Nat} (hk : k < 192) :
    lastDigestBlock (digestAt b k).seq = decide (k = 191) := by
  simp only [lastDigestBlock, digestAt, Bool.beq_eq_decide_eq, ← Bool.decide_and, decide_eq_decide]
  omega

/-- The next position is the next block of the pass, or block 0 of the next pass. -/
theorem nextDigestBlock_digestAt (b : State) (k : Nat) :
    nextDigestBlock { (digestAt b k).seq with dw := digestBlocks b.tables (k + 1) } = (digestAt b (k + 1)).seq := by
  by_cases h : k % 3 + 1 < 3
  · have hblk : (k + 1) % 3 = k % 3 + 1 := by omega
    have hpass : (k + 1) / 3 = k / 3 := by omega
    simp [nextDigestBlock, digestAt, h, hblk, hpass]
  · have hblk : (k + 1) % 3 = 0 := by omega
    have hpass : (k / 3 % 64 + 1) % 64 = (k + 1) / 3 % 64 := by omega
    simp [nextDigestBlock, digestAt, h, hblk, Fin.ext_iff, Fin.val_add, hpass]

theorem digestStep_digestAt (b : State) {k : Nat} (hk : k < 191) : digestStep (digestAt b k) = digestAt b (k + 1) := by
  have hlast : ¬lastDigestBlock (digestAt b k).seq = true := by
    rw [lastDigestBlock_digestAt b (by omega), decide_eq_true_iff]
    omega
  simp only [digestStep, if_neg hlast]
  exact congrArg (fun q => { b with seq := q }) (nextDigestBlock_digestAt b k)

/-- The last block writes DIGEST and completes. -/
theorem digestStep_last (b : State) :
    digestStep (digestAt b 191) = completeCommand false { digestAt b 191 with
      digest := digestResult (digestBuffer b.tables),
      seq := { (digestAt b 191).seq with dw := digestBuffer b.tables } } := by
  have hlast : lastDigestBlock (digestAt b 191).seq = true := lastDigestBlock_digestAt b (by decide)
  simp only [digestStep, if_pos hlast, ← digestBlocks_all]
  rfl

theorem digest_runs {b : State} (hb : b.status.busy = true) (hop : b.seq.op = .digest) :
    ∃ q, Runs (digestAt b 0) 192 192 (completeCommand false
      { b with digest := digestResult (digestBuffer b.tables), seq := q }) := by
  have hstep (k : Nat) : engineStep (digestAt b k) = digestStep (digestAt b k) := by
    simp [engineStep, digestAt, hb, hop]
  have hwork (k : Nat) : stepEncryptions (digestAt b k) = 1 := by simp [stepEncryptions, digestAt, hb, hop]
  have before : ∀ k, k ≤ 191 → Runs (digestAt b 0) k k (digestAt b k) := by
    intro k
    induction k with
    | zero => exact fun _ => Runs.refl _
    | succ k ih =>
      intro hk
      have hone := (ih (by omega)).trans rfl (Runs.single _)
      rwa [hwork, hstep, digestStep_digestAt b (by omega)] at hone
  have hall := (before 191 (by omega)).trans rfl (Runs.single _)
  rw [hwork, hstep, digestStep_last] at hall
  generalize digestBuffer b.tables = dw at hall ⊢
  exact ⟨_, hall⟩

/-- The whole run of an accepted DIGEST. -/
theorem startDigest_runs (s : State) :
    ∃ q, Runs (startOf .digest (acceptWord (encode .digest) s)) 192 192 { s with
      digest := digestResult (digestBuffer s.tables),
      cmd := encode .digest, status := completedStatus s.status s.status.tv, seq := q } :=
  digest_runs (b := startDigest (acceptWord (encode .digest) s)) rfl rfl

/-- Settles O11: the check passes, and the 192 blocks are the 64 passes over three blocks. -/
theorem digestWritesDigest : Obligations.DigestWritesDigest := by
  intro s hidle htv
  obtain ⟨q, hrun⟩ := startDigest_runs s
  refine ⟨_, exec_of_check hidle (check_of_tv htv (.inr rfl)), fun n hn => ?busy, q, ?done⟩
  case busy => rw [hrun.stays n hn, startOf_status (i := .digest) nofun]
  case done =>
    rw [hrun.reaches, htv]
    rfl

/-! ### The digest blocks are independent -/

/-- Block `b` of the working buffer (43_digest.md R170). -/
def blockOf (dw : Vector Word 6) (b : Fin 3) : Block := ⟨dw[2 * b.val], dw[2 * b.val + 1]⟩

theorem blockOf_digestBlock (t : Tables) (dw : Vector Word 6) (c b : Fin 3) :
    blockOf (digestBlock t dw c) b = if c = b then encryptBlock t (blockOf dw b) else blockOf dw b := by
  by_cases h : c = b
  · subst h
    simp [blockOf, digestBlock]
  · have hval : c.val ≠ b.val := fun hv => h (Fin.ext hv)
    have hne : 2 * c.val ≠ 2 * b.val + 1 ∧ 2 * c.val + 1 ≠ 2 * b.val := by omega
    simp [blockOf, digestBlock, h, hval, hne]

/-- One pass encrypts each block once. -/
theorem blockOf_digestPass (t : Tables) (dw : Vector Word 6) (b : Fin 3) :
    blockOf (digestPass t dw) b = encryptBlock t (blockOf dw b) := by
  have hpass : digestPass t dw = digestBlock t (digestBlock t (digestBlock t dw 0) 1) 2 := rfl
  simp only [hpass, blockOf_digestBlock]
  fin_cases b <;> rfl

/-- Settles O27: a block of the buffer follows `Enc` pass by pass. -/
theorem digestBlocksAreIndependent : Obligations.DigestBlocksAreIndependent := by
  intro t b
  have hsemi : Function.Semiconj (blockOf · b) (digestPass t) (encryptBlock t) := fun dw => blockOf_digestPass t dw b
  exact hsemi.iterate_right 64 ctext

end Sys2Proof.Machine
end

section
/-! O26, O28: what the runs of the commands have to do with each other (spec/42_key_schedule.md R147) and the work of each command
(spec/42_key_schedule.md R148). -/

namespace Sys2Proof.Machine

/-! ### EKS and the sequence of INIT and EXPAND commands -/

theorem runCommand_of_check {i : Instr} {s : State} (hidle : Idle s) (hc : check i s = .noError) :
    runCommand i s = engineStep^[engineSteps i] (startOf i (acceptWord (encode i) s)) := by
  simp only [runCommand, exec_of_check hidle hc]

/-- Between the commands of the sequence on `s`: idle with valid tables `t`, and all but CMD and the sequencer as in `s`. -/
structure Between (s : State) (t : Tables) (u : State) : Prop where
  frame : u = { s with tables := t, cmd := u.cmd, status := completedStatus s.status true, seq := u.seq }

section CommandSequence
variable {s u : State} {t : Tables}

theorem Between.status (h : Between s t u) : u.status = completedStatus s.status true := by rw [h.frame]

theorem between_init (hidle : Idle s) : Between s initTables (runCommand .init s) := by
  rw [runCommand_of_check hidle rfl]
  exact ⟨rfl⟩

theorem between_eks {c : BitVec 5} (hidle : Idle s) (hc : 4 ≤ c.toNat) (hlen : s.saltLen = 16) :
    Between s (eksTables c (keyBytes s) (saltBytes s)) (runCommand (.eks c) s) := by
  obtain ⟨q, hrun⟩ := startEks_runs c s
  rw [runCommand_of_check hidle (check_eks hc hlen), hrun.reaches]
  exact ⟨rfl⟩

/-- An EXPAND command between takes the operands of `s`. -/
theorem Between.expand (h : Between s t u) (hlen : s.saltLen = 16) (k : KeySrc) (z : SaltSrc) :
    Between s (expandTables (keyOperand k s) (saltOperand z s) t) (runCommand (.expand k z) u) := by
  have hidle : Idle u := by rw [Idle, h.status]; rfl
  have htv : u.status.tv = true := by rw [h.status]; rfl
  have hulen : u.saltLen = 16 := by rw [h.frame, hlen]
  have hkey : keyOperand k u = keyOperand k s := by rw [h.frame]; cases k <;> rfl
  have hsalt : saltOperand z u = saltOperand z s := by rw [h.frame]; cases z <;> rfl
  have ht : u.tables = t := by rw [h.frame]
  obtain ⟨q, hrun⟩ := startExpand_runs k z u
  rw [runCommand_of_check hidle (check_expand htv (fun _ => by rw [hulen]; decide))]
  show Between _ _ (engineStep^[539] _)
  rw [hrun.reaches, hkey, hsalt, ht, htv, h.frame]
  exact ⟨rfl⟩

theorem Between.repetitions (h : Between s t u) (hlen : s.saltLen = 16) (n : Nat) :
    Between s ((eksRepetition (keyBytes s) (saltBytes s))^[n] t)
      ((fun v => runCommand (.expand .saltBuffer .zero) (runCommand (.expand .keyBuffer .zero) v))^[n] u) := by
  induction n with
  | zero => exact h
  | succ n ih =>
    rw [Function.iterate_succ_apply', Function.iterate_succ_apply']
    exact (ih.expand hlen .keyBuffer .zero).expand hlen .saltBuffer .zero

end CommandSequence

/-- Settles O26: both sides leave the tables of `eksTables`, EKS as its run and the sequence command by command. -/
theorem eksIsTheCommandSequence : Obligations.EksIsTheCommandSequence := by
  intro s c hidle hc hlen
  have heks := between_eks hidle hc hlen
  have hhand := ((between_init hidle).expand hlen .keyBuffer .saltBuffer).repetitions hlen (2 ^ c.toNat)
  exact ⟨by rw [heks.frame, hhand.frame]; rfl, by rw [heks.status, hhand.status]⟩

/-! ### The work of the commands -/

/-- The run of every command that passes its checks, and that it leaves BUSY = 0. -/
theorem command_runs (i : Instr) (s : State) :
    ∃ v, Runs (startOf i (acceptWord (encode i) s)) (engineSteps i) (encryptionWork i) v ∧ v.status.busy = false := by
  cases i with
  | nop => exact ⟨_, Runs.refl _, rfl⟩
  | init => exact ⟨_, Runs.single _, rfl⟩
  | expand k z =>
    obtain ⟨q, hrun⟩ := startExpand_runs k z s
    exact ⟨_, hrun, rfl⟩
  | eks c =>
    obtain ⟨q, hrun⟩ := startEks_runs c s
    exact ⟨_, hrun, rfl⟩
  | encrypt => exact ⟨_, Runs.single _, rfl⟩
  | digest =>
    obtain ⟨q, hrun⟩ := startDigest_runs s
    exact ⟨_, hrun, rfl⟩

/-- Settles O28: the run of each command counts its block encryptions. -/
theorem encryptionWorkIsExact : Obligations.EncryptionWorkIsExact := by
  intro i s t hidle hc h
  rw [exec_of_check hidle hc] at h
  cases h
  obtain ⟨v, hrun, hbusy⟩ := command_runs i s
  exact ⟨hrun.worked, by rw [hrun.reaches, hbusy]⟩

end Sys2Proof.Machine
end

section
/-! O1, O5, O18, O30, O37, O50, O51: the fixed words and tables of the spec, and rules that are one equation of the model
(spec/10_state.md R32, R42; spec/20_memory.md R51; spec/30_encoding.md R83; spec/41_init_tables.md R121, R122;
spec/70_reset_and_hazards.md R240, R250). -/

namespace Sys2Proof.Machine

/-! ### Fixed words and tables -/

/-- Settles O1: each word is run through the tests of `decode`. -/
theorem specWordsDecode : Obligations.SpecWordsDecode := by
  unfold Obligations.SpecWordsDecode
  decide

theorem some_getElem_mk {n : Nat} (l : List Word) (h : (Array.mk l).size = n) (j : Fin n) :
    some (Vector.mk (Array.mk l) h)[j] = l[j.val]? := by
  subst h
  exact (List.getElem?_eq_getElem j.isLt).symm

theorem initTables_p (i : Fin 18) : some initTables.p[i] = piSubkeys[i.val]? := some_getElem_mk piSubkeys _ i

theorem initTables_s (k : Fin 4) (j : Fin 256) :
    some initTables.s[k][j] = [piSbox0, piSbox1, piSbox2, piSbox3][k.val][j.val]? := by
  match k with
  | 0 => exact some_getElem_mk piSbox0 _ j
  | 1 => exact some_getElem_mk piSbox1 _ j
  | 2 => exact some_getElem_mk piSbox2 _ j
  | 3 => exact some_getElem_mk piSbox3 _ j

theorem getElem?_append_skip {a : List Word} {m : Nat} (h : a.length = m) (l : List Word) (i : Nat) :
    (a ++ l)[m + i]? = l[i]? := by
  rw [List.getElem?_append_right (by omega), h, Nat.add_sub_cancel_left]

/-- In a list of 18 words and four rows of 256, word `j` of row `k` stands at `18 + 256 k + j`. -/
theorem getElem?_rows {p b0 b1 b2 b3 : List Word} (hp : p.length = 18) (h0 : b0.length = 256) (h1 : b1.length = 256)
    (h2 : b2.length = 256) (k : Fin 4) {j : Nat} (hj : j < 256) :
    (p ++ b0 ++ b1 ++ b2 ++ b3)[18 + 256 * k.val + j]? = [b0, b1, b2, b3][k.val][j]? := by
  simp only [List.append_assoc]
  rw [Nat.add_assoc, getElem?_append_skip hp]
  match k with
  | 0 =>
    rw [show 256 * (0 : Fin 4).val + j = j by simp, List.getElem?_append_left (by omega)]
    rfl
  | 1 =>
    rw [show 256 * (1 : Fin 4).val + j = 256 + j by simp, getElem?_append_skip h0, List.getElem?_append_left (by omega)]
    rfl
  | 2 =>
    rw [show 256 * (2 : Fin 4).val + j = 256 + (256 + j) by simp; omega, getElem?_append_skip h0,
      getElem?_append_skip h1, List.getElem?_append_left (by omega)]
    rfl
  | 3 =>
    rw [show 256 * (3 : Fin 4).val + j = 256 + (256 + (256 + j)) by simp; omega, getElem?_append_skip h0,
      getElem?_append_skip h1, getElem?_append_skip h2]
    rfl

/-- The check values of R122, and its entries at the borders of the rows. -/
theorem piWords_checkValues : piWords[0]? = some 0x243F6A88 ∧ piWords[17]? = some 0x8979FB1B ∧ piWords[18]? = some 0xD1310BA6 ∧
    piWords[273]? = some 0x6E85076A ∧ piWords[274]? = some 0x4B7A70E9 ∧ piWords[530]? = some 0xE93D5A68 ∧
    piWords[786]? = some 0x3A39CE37 ∧ piWords[1041]? = some 0x3AC372E6 ∧ piWords.length = 1042 ∧
    feistel initTables 0 = 0x2FCFF51E := by decide +kernel


/-- Settles O18: P and the rows of S are the lists of the table, one after the other; the check values are computed. -/
theorem initTablesAreThePiWords : Obligations.InitTablesAreThePiWords := by
  obtain ⟨hp, h0, h1, h2, -⟩ := piTable_sizes
  refine ⟨fun i => ?p, fun k j => ?s, piWords_checkValues⟩
  case p =>
    rw [initTables_p, piWords]
    simp only [List.append_assoc]
    rw [List.getElem?_append_left (by rw [show piSubkeys.length = 18 from hp]; exact i.isLt)]
  case s => rw [initTables_s, piWords, getElem?_rows hp h0 h1 h2 k j.isLt]

/-! ### The STATUS word, the window -/

/-- Settles O37: STATUS has finitely many values; each is laid out as a word and its fields read. -/
theorem statusWordLayout : Obligations.StatusWordLayout := by
  rintro ⟨busy, done, err, overrun, tv, code⟩
  revert busy done err overrun tv
  cases code <;> decide

@[simp] theorem statusWord_busy (st : Status) : (statusWord st).getLsbD 0 = st.busy := (statusWordLayout st).1

/-- Settles O30: the offset is the difference to the base, which the bounds of the window keep below 0x4000. -/
theorem windowIsSixteenKiB : Obligations.WindowIsSixteenKiB := by
  refine ⟨Nat.mul_mod_right _ _, fun off hoff => ?inside, fun a off h => ?onlyOne⟩
  case inside =>
    have hin : Config.engineBase ≤ Config.engineBase + off ∧ Config.engineBase + off < Config.engineBase + 0x4000 := by omega
    rw [windowOffset, hostAddress, if_pos hin, Nat.add_sub_cancel_left]
  case onlyOne =>
    unfold windowOffset at h
    split at h
    · cases h
      simp only [hostAddress]
      omega
    · cases h

/-! ### Busy commands, placed commands, reset -/

/-- Settles O5: `exec` and the write to CMD both meet the test of BUSY first. -/
theorem busyCommandIsDropped : Obligations.BusyCommandIsDropped := by
  refine fun i s hb => ⟨?exec, memWrite_busy hb (by decide) _⟩
  rw [exec_eq_issue, issueCommand_busy hb]
  rfl

theorem acceptCommand_legal {w : Word} {i : Instr} (h : decode w = .command i) (s : State) : acceptCommand w s = exec i s := by
  simp [acceptCommand, h]

/-- The host's write of a word to CMD. -/
theorem hostStep_write_cmd {s : State} {w : Word} {rest : List HostStmt} (hp : s.program = .wr 0x0000 .w32 w :: rest)
    (hidle : Idle s) : hostStep s = acceptCommand w { s with program := rest } := by
  rw [hostStep, hp]
  exact memWrite_cmd (s := { s with program := rest }) hidle w

/-- Settles O4: the host's turn performs the write, which is accepted; `withFetchWord` is a state of that kind. -/
theorem stepRunsDecodedCommand : Obligations.StepRunsDecodedCommand := by
  have first (s : State) (w : Word) (i : Instr) (rest : List HostStmt) (hturn : turnOf s = .host)
      (hp : s.program = .wr 0x0000 .w32 w :: rest) (hidle : Idle s) (hw : decode w = .command i) :
      step s = exec i { s with program := rest, turns := s.turns.tail } := by
    rw [step_eq_takeTurn, hturn]
    show hostStep (afterTurn s) = _
    rw [hostStep_write_cmd (s := afterTurn s) hp hidle, acceptCommand_legal hw]
    rfl
  refine ⟨first, fun s w i hw => ?_⟩
  have hword : BitVec.ofNat 32 (w.toNat % 2 ^ 32) = w := by rw [Nat.mod_eq_of_lt w.isLt, BitVec.ofNat_toNat, BitVec.setWidth_eq]
  exact first (s.withFetchWord 32 w.toNat) w i s.program rfl (by rw [State.withFetchWord, hword]) rfl hw

/-- Settles O50: a reset turn is `resetBlock`, whose fields are those of `State.reset` but for the host's own. -/
theorem resetIsOneEvent : Obligations.ResetIsOneEvent := by
  refine ⟨fun s hturn => ⟨Tables.reset, Sequencer.reset, ?_⟩, Tables.reset, Sequencer.reset, rfl⟩
  rw [step_eq_takeTurn, hturn]
  rfl

/-- Settles O51: the machine after reset is idle, with STATUS and DIGEST 0. -/
theorem resetMeetsInvariant : Obligations.ResetMeetsInvariant := by
  unfold Obligations.ResetMeetsInvariant
  decide

end Sys2Proof.Machine
end

section
/-! O47, O48: a host step while a command runs (spec/20_memory.md R62, R65; spec/70_reset_and_hazards.md R250, R251). It changes only
the host's own fields and OVERRUN, by an effect it reads off what the host may see while BUSY = 1. So it does the same from two
states the host cannot tell apart, and it commutes with an engine step. -/

namespace Sys2Proof.Machine

/-- The fields a host step may change while BUSY = 1, at the given values. -/
def hostEffect (program : List HostStmt) (received : List Word) (draws : Nat) (overrun : Bool) (s : State) : State :=
  { s with program := program, received := received, draws := draws, status := { s.status with overrun := overrun } }

/-- A read while BUSY = 1 answers the same word, or draws, in two states the host cannot tell apart. -/
theorem readValue_busy_congr {s s' : State} (hb : s.status.busy = true) (h : sameToHost s s') (r : Reg) :
    readValue r s' = readValue r s := by
  rw [sameToHost] at h
  rw [h]
  cases r <;> simp [readValue, hb]

theorem memRead_busy_effect {s s' : State} (hb : s.status.busy = true) (h : sameToHost s s') (off : Nat) :
    ∃ v d, memRead off s = (v, { s with draws := d }) ∧ memRead off s' = (v, { s' with draws := d }) := by
  have hdraws : s'.draws = s.draws := by rw [h]
  unfold memRead
  cases regAt off with
  | none => exact ⟨0, s.draws, rfl, by rw [← hdraws]⟩
  | some r =>
    simp only [readValue_busy_congr hb h]
    cases readValue r s with
    | some v => exact ⟨v, s.draws, rfl, by rw [← hdraws]⟩
    | none => exact ⟨Config.draw s.draws, s.draws + 1, rfl, by rw [← hdraws]; rfl⟩

theorem memWrite_busy_effect {s s' : State} (hb : s.status.busy = true) (h : sameToHost s s') (off : Nat) (v : Word) :
    ∃ o, memWrite off v s = .next { s with status := { s.status with overrun := o } } ∧
      memWrite off v s' = .next { s' with status := { s'.status with overrun := o } } := by
  have hst : s'.status = s.status := by rw [h]
  by_cases hoff : off = 0x0004
  · subst hoff
    refine ⟨if v.getLsbD 3 then false else s.status.overrun, ?_, ?_⟩
    · rw [memWrite_status, writeStatus_eq_set_overrun]
    · rw [memWrite_status, writeStatus_eq_set_overrun, hst]
  · exact ⟨true, memWrite_busy hb hoff v, memWrite_busy (hst ▸ hb) hoff v⟩

theorem sameToHost.withProgram {s s' : State} (h : sameToHost s s') (p : List HostStmt) :
    sameToHost { s with program := p } { s' with program := p } := by
  rw [h]
  rfl

/-- Everything a host step does while BUSY = 1: one effect, the same in every state the host cannot tell from `s`. -/
theorem hostStep_busy_effect {s s' t : State} (hb : s.status.busy = true) (h : sameToHost s s')
    (hstep : hostStep s = .next t) :
    ∃ p r d o, t = hostEffect p r d o s ∧ hostStep s' = .next (hostEffect p r d o s') := by
  have hprog : s'.program = s.program := by rw [h]
  have hrec : s'.received = s.received := by rw [h]
  have hdraws : s'.draws = s.draws := by rw [h]
  have hst : s'.status = s.status := by rw [h]
  have hstay : hostEffect s.program s.received s.draws s.status.overrun s' = s' := by
    rw [← hprog, ← hrec, ← hdraws, ← hst]
    rfl
  obtain ⟨hp, ht⟩ | ⟨off, v, rest, hp, hok, hw⟩ | ⟨off, rest, hp, hok, rfl⟩ | ⟨rest, hp, ht⟩ :=
    hostStep_cases hstep
  · refine ⟨s.program, s.received, s.draws, s.status.overrun, ht, ?_⟩
    rw [hstay, hostStep, hprog, hp]
  · obtain ⟨o, hs, hs'⟩ := memWrite_busy_effect (s := { s with program := rest }) hb (h.withProgram rest) off v
    rw [hs] at hw
    cases hw
    refine ⟨rest, s.received, s.draws, o, rfl, ?_⟩
    rw [← hrec, ← hdraws, hostStep, hprog, hp]
    simp only [hostStatement, hok]
    exact hs'
  · obtain ⟨v, d, hs, hs'⟩ := memRead_busy_effect (s := { s with program := rest }) hb (h.withProgram rest) off
    refine ⟨rest, v :: s.received, d, s.status.overrun, by rw [hs]; rfl, ?_⟩
    rw [← hrec, ← hst, hostStep, hprog, hp]
    simp only [hostStatement, hok, hs']
    rfl
  · refine ⟨s.program, s.received, s.draws, s.status.overrun, ht.trans (if_pos hb), ?_⟩
    rw [hstay, hostStep, hprog, hp]
    simp only [hostStatement, statusWord_busy, hst, hb, if_true]

/-- Settles O47: the host's effect is the same on both states, and it keeps what they agree on. -/
theorem hostSeesNothingOfRunningCommand : Obligations.HostSeesNothingOfRunningCommand := by
  intro s s' t hb hturn h hstep
  have hturn' : turnOf s' = .host := by rw [← hturn, h]; rfl
  have hafter : sameToHost (afterTurn s) (afterTurn s') := by rw [h]; rfl
  rw [step_eq_takeTurn, hturn] at hstep
  obtain ⟨p, r, d, o, rfl, hstep'⟩ := hostStep_busy_effect (s := afterTurn s) hb hafter hstep
  refine ⟨_, by rw [step_eq_takeTurn, hturn']; exact hstep', ?_⟩
  rw [h]
  rfl

/-! ### The engine step -/

/-- `t` is `s` but for the fields that the steps of EXPAND and EKS may write (42_key_schedule.md R150). -/
def ScheduleFrame (s t : State) : Prop := t = { s with tables := t.tables, status := t.status, seq := t.seq }

theorem expansionStep_scheduleFrame (s : State) : ScheduleFrame s (expansionStep s) := by
  unfold expansionStep
  split <;> rfl

theorem ScheduleFrame.complete {s t : State} (h : ScheduleFrame s t) (b : Bool) :
    ScheduleFrame s (completeCommand b t) := by
  rw [h]
  rfl

theorem ScheduleFrame.withSeq {s t : State} (h : ScheduleFrame s t) (q : Sequencer) :
    ScheduleFrame s { t with seq := q } := by
  rw [h]
  rfl

theorem ScheduleFrame.endRepetition {s t : State} (h : ScheduleFrame s t) : ScheduleFrame s (endRepetition t) := by
  unfold Sys2Proof.Machine.endRepetition
  dsimp only
  split
  · exact (h.withSeq _).complete true
  · exact h.withSeq _

theorem expandStep_scheduleFrame (s : State) : ScheduleFrame s (expandStep s) := by
  unfold expandStep
  split
  · exact (expansionStep_scheduleFrame s).complete false
  · exact expansionStep_scheduleFrame s

theorem eksStep_scheduleFrame (s : State) : ScheduleFrame s (eksStep s) := by
  have h := expansionStep_scheduleFrame s
  have stage (enter : State → State) (henter : ScheduleFrame s (enter (expansionStep s))) :
      ScheduleFrame s (if lastPair s.seq.phase then enter (expansionStep s) else expansionStep s) := by
    split
    · exact henter
    · exact h
  unfold eksStep
  cases s.seq.stage with
  | s1 => rfl
  | s2 => exact stage enterStage3 (h.withSeq _)
  | s3a => exact stage enterStage3b (h.withSeq _)
  | s3b => exact stage endRepetition h.endRepetition

/-- A step of DIGEST changes only the working buffer and the position, or is the last one, which writes DIGEST. -/
theorem digestStep_cases (s : State) :
    (∃ q, digestStep s = { s with seq := q }) ∨
      ∃ dw q, digestStep s = completeCommand false { s with digest := digestResult dw, seq := q } := by
  unfold digestStep
  dsimp only
  split
  · exact .inr ⟨_, _, rfl⟩
  · exact .inl ⟨_, rfl⟩

/-- `t` is `s` but for the fields an engine step may write (42_key_schedule.md R150). -/
def EngineFrame (s t : State) : Prop :=
  t = { s with tables := t.tables, dataL := t.dataL, dataR := t.dataR, digest := t.digest, status := t.status,
               seq := t.seq }

theorem ScheduleFrame.engineFrame {s t : State} (h : ScheduleFrame s t) : EngineFrame s t := by
  rw [h]
  rfl

/-- What an engine step leaves unchanged. -/
theorem engineStep_frame (s : State) : EngineFrame s (engineStep s) := by
  unfold engineStep
  split
  · cases s.seq.op with
    | init => rfl
    | expand => exact (expandStep_scheduleFrame s).engineFrame
    | eks => exact (eksStep_scheduleFrame s).engineFrame
    | encrypt => rfl
    | digest => obtain ⟨q, h⟩ | ⟨dw, q, h⟩ := digestStep_cases s <;> rw [h] <;> rfl
  · rfl

/-- An engine step after which the command still runs leaves STATUS, so it shows the host nothing. -/
theorem sameToHost_engineStep {s : State} (hb : (engineStep s).status.busy = true) : sameToHost s (engineStep s) := by
  have hst : (engineStep s).status = s.status := by
    obtain h | ⟨-, h⟩ := engineStep_status_cases s
    · exact h
    · rw [h] at hb
      cases hb
  have hframe := engineStep_frame s
  rw [EngineFrame, hst] at hframe
  exact hframe

section HostEffect
variable (p : List HostStmt) (r : List Word) (d : Nat) (o : Bool) (s : State)

theorem expansionStep_hostEffect :
    expansionStep (hostEffect p r d o s) = hostEffect p r d o (expansionStep s) := by
  have hkey (k : KeySrc) : keyOperand k (hostEffect p r d o s) = keyOperand k s := by cases k <;> rfl
  have hsalt (z : SaltSrc) : saltOperand z (hostEffect p r d o s) = saltOperand z s := by cases z <;> rfl
  have hseq : (hostEffect p r d o s).seq = s.seq := rfl
  unfold expansionStep
  rw [hseq]
  cases s.seq.phase with
  | keyXor i =>
    simp only [keyXorStep, hseq, hkey]
    rfl
  | encrypt n =>
    simp only [encryptPairStep, hseq, hsalt]
    rfl

theorem endRepetition_hostEffect :
    endRepetition (hostEffect p r d o s) = hostEffect p r d o (endRepetition s) := by
  by_cases h : s.seq.iter + 1 = BitVec.ofNat 32 (2 ^ s.seq.cost.toNat)
  · rw [endRepetition_last h, endRepetition_last (s := hostEffect p r d o s) h]
    rfl
  · rw [endRepetition_next h, endRepetition_next (s := hostEffect p r d o s) h]
    rfl

/-- An engine step neither reads nor writes the host's fields and OVERRUN. -/
theorem engineStep_hostEffect : engineStep (hostEffect p r d o s) = hostEffect p r d o (engineStep s) := by
  have hseq : (hostEffect p r d o s).seq = s.seq := rfl
  have hbusy : (hostEffect p r d o s).status.busy = s.status.busy := rfl
  unfold engineStep
  rw [hbusy, hseq]
  cases s.status.busy with
  | false => rfl
  | true =>
    cases s.seq.op with
    | init => rfl
    | expand =>
      simp only [expandStep, hseq, expansionStep_hostEffect, if_true]
      split <;> rfl
    | eks =>
      simp only [eksStep, hseq, expansionStep_hostEffect, if_true]
      cases s.seq.stage with
      | s1 => rfl
      | s2 =>
        dsimp only
        split <;> rfl
      | s3a =>
        dsimp only
        split <;> rfl
      | s3b =>
        dsimp only
        split
        · exact endRepetition_hostEffect p r d o _
        · rfl
    | encrypt => rfl
    | digest =>
      simp only [digestStep, hseq, if_true]
      split <;> rfl

end HostEffect

/-- Settles O48: the host's effect is the same before and after the engine step, and the engine step does not read it. -/
theorem hostStepCommutesWithEngineStep : Obligations.HostStepCommutesWithEngineStep := by
  intro s t hb hrun hstep
  obtain ⟨p, r, d, o, rfl, hstep'⟩ := hostStep_busy_effect hb (sameToHost_engineStep hrun) hstep
  rw [hstep', engineStep_hostEffect]

end Sys2Proof.Machine
end

section
/-! O17, O53: what an engine step does to a command in progress (spec/42_key_schedule.md R150 to R154; spec/60_exceptions.md
R206). It completes the command without an error, or leaves it in progress at a legal position with one engine step fewer to
go. -/

namespace Sys2Proof.Machine

/-- Settles O17: an engine step leaves STATUS, which shows no error while BUSY = 1, or completes the command. -/
theorem runningCommandNeverFails : Obligations.RunningCommandNeverFails := by
  intro s hb hlegal
  obtain h | ⟨-, h⟩ := engineStep_status_cases s
  · rw [h]
    refine ⟨?_, ?_, hlegal⟩ <;> simp_all [statusLegal]
  · rw [h]
    exact ⟨rfl, rfl, rfl⟩

/-! ### The expansion in progress -/

/-- How many XSteps an expansion still takes from a position (42_key_schedule.md R152). -/
def xstepsLeft : XPhase → Nat
  | .keyXor i => 539 - i.val
  | .encrypt n => 521 - n.val

theorem xstepsLeft_start : xstepsLeft (.keyXor 0) = 539 := rfl

theorem xstepsLeft_of_last {p : XPhase} (h : lastPair p = true) : xstepsLeft p = 1 := by
  cases p with
  | keyXor i => simp [lastPair] at h
  | encrypt n =>
    simp only [lastPair, beq_iff_eq] at h
    simp only [xstepsLeft]
    omega

/-- An XStep that is not the last leads to the next position of the expansion. -/
theorem expansionStep_position {s : State} (hlast : ¬lastPair s.seq.phase = true) (h : positionOk s.seq = true) :
    positionOk (expansionStep s).seq = true ∧
      xstepsLeft (expansionStep s).seq.phase + 1 = xstepsLeft s.seq.phase := by
  cases hp : s.seq.phase with
  | keyXor i =>
    simp only [positionOk, hp, Bool.and_eq_true, beq_iff_eq] at h
    obtain ⟨⟨hko, hso⟩, hblk⟩ := h
    simp only [expansionStep, hp, keyXorStep_seq, nextKeyWord]
    by_cases hi : i.val + 1 < 18
    · simp [positionOk, xstepsLeft, hi, hko, hso, hblk]
      omega
    · simp [positionOk, xstepsLeft, hi, hko, hso]
      omega
  | encrypt n =>
    have hn : n.val + 1 < 521 := by
      simp [hp, lastPair] at hlast
      omega
    simp only [positionOk, hp, Bool.and_eq_true, beq_iff_eq] at h
    simp only [expansionStep, hp, encryptPairStep_seq, nextPair, hn]
    simp [positionOk, xstepsLeft, h]
    omega

theorem positionOk_startExpansion (k : KeySrc) (z : SaltSrc) (q : Sequencer) : positionOk (startExpansion k z q) = true := rfl

/-! ### The command in progress -/

/-- How many engine steps an EKS in progress still takes (42_key_schedule.md R151, R154). -/
def eksStepsLeft (q : Sequencer) : Nat :=
  match q.stage with
  | .s1 => 540 + 1078 * 2 ^ q.cost.toNat
  | .s2 => xstepsLeft q.phase + 1078 * 2 ^ q.cost.toNat
  | .s3a => xstepsLeft q.phase + 539 + 1078 * (2 ^ q.cost.toNat - q.iter.toNat - 1)
  | .s3b => xstepsLeft q.phase + 1078 * (2 ^ q.cost.toNat - q.iter.toNat - 1)

/-- How many engine steps a command in progress still takes (42_key_schedule.md R150; 43_digest.md R172). -/
def stepsLeft (q : Sequencer) : Nat :=
  match q.op with
  | .init => 1
  | .expand => xstepsLeft q.phase
  | .eks => eksStepsLeft q
  | .encrypt => 1
  | .digest => 192 - (3 * q.dpass.val + q.dblk.val)

/-- The engine step from `s` to `t` completes the command, or leaves it in progress with one step fewer to go. -/
def Progresses (s t : State) : Prop :=
  t.status.busy = false ∨ (inProgressOk t = true ∧ stepsLeft t.seq + 1 = stepsLeft s.seq)

theorem expandStep_progresses {s : State} (hop : s.seq.op = .expand) (h : inProgressOk s = true) :
    Progresses s (expandStep s) := by
  unfold expandStep
  split
  · exact .inl rfl
  next hlast =>
    simp only [inProgressOk, hop, Bool.and_eq_true] at h
    obtain ⟨⟨htv, hpos⟩, hsrc⟩ := h
    obtain ⟨hpos', hleft⟩ := expansionStep_position hlast hpos
    have hop' : (expansionStep s).seq.op = .expand := by rw [expansionStep_op, hop]
    refine .inr ⟨?_, ?_⟩
    · simp only [inProgressOk, hop', Bool.and_eq_true, hpos']
      rw [expansionStep_frame]
      exact ⟨⟨htv, trivial⟩, hsrc⟩
    · simpa only [stepsLeft, hop, hop'] using hleft

theorem digestStep_progresses {s : State} (hop : s.seq.op = .digest) (h : inProgressOk s = true) :
    Progresses s (digestStep s) := by
  unfold digestStep
  dsimp only
  split
  · exact .inl rfl
  next hlast =>
    refine .inr ⟨?_, ?_⟩
    · simp only [inProgressOk, hop] at h
      unfold nextDigestBlock
      dsimp only
      split <;> simp [inProgressOk, hop, h]
    · simp only [lastDigestBlock, Bool.and_eq_true, beq_iff_eq] at hlast
      unfold nextDigestBlock
      dsimp only
      split
      · simp [stepsLeft, hop]
        omega
      · have hpass : (s.seq.dpass + 1).val = s.seq.dpass.val + 1 := by
          rw [Fin.val_add_one_of_lt']
          omega
        simp [stepsLeft, hop, hpass]
        omega

/-! ### EKS -/

@[simp] theorem expansionStep_cost (s : State) : (expansionStep s).seq.cost = s.seq.cost := by rw [expansionStep_frame]

@[simp] theorem expansionStep_iter (s : State) : (expansionStep s).seq.iter = s.seq.iter := by rw [expansionStep_frame]

@[simp] theorem expansionStep_ksrc (s : State) : (expansionStep s).seq.ksrc = s.seq.ksrc := by rw [expansionStep_frame]

@[simp] theorem expansionStep_ssrc (s : State) : (expansionStep s).seq.ssrc = s.seq.ssrc := by rw [expansionStep_frame]

theorem inProgressOk_eks_iff {s : State} (hop : s.seq.op = .eks) :
    inProgressOk s = true ↔ 4 ≤ s.seq.cost.toNat ∧ s.saltLen = 16 ∧ eksStageOk s.seq = true := by
  simp [inProgressOk, hop, and_assoc]

theorem positionOk_of_eksStageOk {q : Sequencer} (hst : q.stage ≠ .s1) (h : eksStageOk q = true) : positionOk q = true := by
  cases hq : q.stage <;> simp_all [eksStageOk]

theorem stepsLeft_eks {q : Sequencer} (hop : q.op = .eks) : stepsLeft q = eksStepsLeft q := by simp only [stepsLeft, hop]

/-- An XStep of an EKS stage that is not its last. -/
theorem expansionStep_eksStage {s : State} (hst : s.seq.stage ≠ .s1) (hlast : ¬lastPair s.seq.phase = true)
    (h : eksStageOk s.seq = true) :
    eksStageOk (expansionStep s).seq = true ∧ eksStepsLeft (expansionStep s).seq + 1 = eksStepsLeft s.seq := by
  obtain ⟨hpos, hleft⟩ := expansionStep_position hlast (positionOk_of_eksStageOk hst h)
  constructor
  · cases hq : s.seq.stage <;> simp_all [eksStageOk, expansionStep_stage]
  · cases hq : s.seq.stage with
    | s1 => exact absurd hq hst
    | s2 | s3a | s3b =>
      simp only [eksStepsLeft, expansionStep_stage, expansionStep_cost, expansionStep_iter, hq]
      omega

theorem toNat_eksRepetitions (c : BitVec 5) : (BitVec.ofNat 32 (2 ^ c.toNat)).toNat = 2 ^ c.toNat := by
  rw [BitVec.toNat_ofNat, Nat.mod_eq_of_lt (Nat.lt_of_le_of_lt (two_pow_cost_le c) (by decide))]

/-- The count after one more repetition, when it is not yet `2^cost`. -/
theorem iter_succ_lt {q : Sequencer} (hlt : q.iter.toNat < 2 ^ q.cost.toNat)
    (hne : q.iter + 1 ≠ BitVec.ofNat 32 (2 ^ q.cost.toNat)) :
    (q.iter + 1).toNat = q.iter.toNat + 1 ∧ q.iter.toNat + 1 < 2 ^ q.cost.toNat := by
  have hpow := two_pow_cost_le q.cost
  have hsucc : (q.iter + 1).toNat = q.iter.toNat + 1 := by
    rw [BitVec.toNat_add]
    show (q.iter.toNat + 1) % 2 ^ 32 = _
    omega
  rw [ne_eq, ← BitVec.toNat_inj, toNat_eksRepetitions, hsucc] at hne
  omega

theorem eksStep_progresses {s : State} (hop : s.seq.op = .eks) (h : inProgressOk s = true) :
    Progresses s (eksStep s) := by
  obtain ⟨hcost, hlen, hstage⟩ := (inProgressOk_eks_iff hop).1 h
  have hlen' : (expansionStep s).saltLen = 16 := by rw [expansionStep_frame, ← hlen]
  have hop' : (expansionStep s).seq.op = .eks := by rw [expansionStep_op, hop]
  have goOn {u : State} (hu : u.saltLen = 16) (huop : u.seq.op = .eks) (hucost : u.seq.cost = s.seq.cost)
      (hok : eksStageOk u.seq = true) (hleft : eksStepsLeft u.seq + 1 = eksStepsLeft s.seq) : Progresses s u :=
    .inr ⟨(inProgressOk_eks_iff huop).2 ⟨hucost ▸ hcost, hu, hok⟩, by rwa [stepsLeft_eks huop, stepsLeft_eks hop]⟩
  have mid (hst : s.seq.stage ≠ .s1) (hlast : ¬lastPair s.seq.phase = true) : Progresses s (expansionStep s) := by
    obtain ⟨hok, hleft⟩ := expansionStep_eksStage hst hlast hstage
    exact goOn hlen' hop' (expansionStep_cost s) hok hleft
  unfold eksStep
  cases hst : s.seq.stage with
  | s1 =>
    refine goOn hlen hop rfl rfl ?_
    simp only [eksStepsLeft, startExpansion_stage, startExpansion_phase, startExpansion_cost, hst, xstepsLeft_start]
    omega
  | s2 =>
    dsimp only
    split
    next hlast =>
      have hiter : 0 < 2 ^ s.seq.cost.toNat := Nat.two_pow_pos _
      refine goOn hlen' hop' (expansionStep_cost s) ?_ ?_
      · simp [eksStageOk, positionOk_startExpansion]
      · simp [eksStepsLeft, hst, xstepsLeft_start, xstepsLeft_of_last hlast]
        omega
    next hlast => exact mid (by simp [hst]) hlast
  | s3a =>
    dsimp only
    split
    next hlast =>
      refine goOn hlen' hop' (expansionStep_cost s) ?_ ?_
      · simp_all [eksStageOk, positionOk_startExpansion]
      · simp [eksStepsLeft, hst, xstepsLeft_start, xstepsLeft_of_last hlast]
        omega
    next hlast => exact mid (by simp [hst]) hlast
  | s3b =>
    dsimp only
    split
    next hlast =>
      by_cases hend : (expansionStep s).seq.iter + 1 = BitVec.ofNat 32 (2 ^ (expansionStep s).seq.cost.toNat)
      · rw [endRepetition_last hend]
        exact .inl rfl
      · rw [endRepetition_next hend]
        have hlt : s.seq.iter.toNat < 2 ^ s.seq.cost.toNat := by simp_all [eksStageOk]
        obtain ⟨hsucc, hmore⟩ := iter_succ_lt (q := s.seq) hlt (by simpa using hend)
        refine goOn hlen' hop' (expansionStep_cost s) ?_ ?_
        · simp only [eksStageOk, startExpansion_stage, startExpansion_ksrc, startExpansion_ssrc, startExpansion_iter,
            startExpansion_cost, expansionStep_iter, expansionStep_cost, positionOk_startExpansion, hsucc]
          simpa using hmore
        · simp only [eksStepsLeft, startExpansion_stage, startExpansion_phase, startExpansion_iter, startExpansion_cost,
            expansionStep_iter, expansionStep_cost, hst, xstepsLeft_start, xstepsLeft_of_last hlast, hsucc]
          omega
    next hlast => exact mid (by simp [hst]) hlast

/-! ### Every command -/

theorem engineStep_progresses {s : State} (hb : s.status.busy = true) (h : inProgressOk s = true) :
    Progresses s (engineStep s) := by
  unfold engineStep
  rw [if_pos hb]
  cases hop : s.seq.op with
  | init => exact .inl rfl
  | expand => exact expandStep_progresses hop h
  | eks => exact eksStep_progresses hop h
  | encrypt => exact .inl rfl
  | digest => exact digestStep_progresses hop h

/-! ### The run to completion -/

theorem step_engine {s : State} (hb : s.status.busy = true) (hturns : s.turns = []) : step s = .next (engineStep s) := by
  have hturn : turnOf s = .engine := by simp [turnOf, hturns, defaultTurn, hb]
  rw [step_eq_takeTurn, hturn, afterTurn_of_nil hturns]
  rfl

theorem run_succ {s t : State} (h : step s = .next t) (k : Nat) :
    Host.Core.run Sys2Proof.core (k + 1) s = Host.Core.run Sys2Proof.core k t := by
  have hcore : Sys2Proof.core.step s = .next t := h
  simp only [Host.Core.run, hcore]

/-- The STATUS of a command that an engine step completes. -/
theorem engineStep_completed {s : State} (hb : s.status.busy = true) (h : (engineStep s).status.busy = false) :
    (engineStep s).status.done = true ∧ (engineStep s).status.err = false := by
  obtain hst | ⟨-, hst⟩ := engineStep_status_cases s
  · rw [hst, hb] at h
    cases h
  · rw [hst]
    exact ⟨rfl, rfl⟩

theorem run_completes (n : Nat) : ∀ s : State, s.status.busy = true → inProgressOk s = true → s.turns = [] →
    stepsLeft s.seq < n → ∃ k t, Host.Core.run Sys2Proof.core k s = .next t ∧ t.status.busy = false ∧
      t.status.done = true ∧ t.status.err = false := by
  induction n with
  | zero => exact fun s _ _ _ hleft => absurd hleft (Nat.not_lt_zero _)
  | succ n ih =>
    intro s hb hok hturns hleft
    by_cases hend : (engineStep s).status.busy = false
    · exact ⟨1, engineStep s, run_succ (step_engine hb hturns) 0, hend, engineStep_completed hb hend⟩
    · obtain hbusy | ⟨hok', hless⟩ := engineStep_progresses hb hok
      · exact absurd hbusy hend
      · have hturns' : (engineStep s).turns = [] := by rw [engineStep_frame, hturns]
        obtain ⟨k, t, hrun, hdone⟩ := ih (engineStep s) (by simpa using hend) hok' hturns' (by omega)
        exact ⟨k + 1, t, by rw [run_succ (step_engine hb hturns), hrun], hdone⟩

/-- The parts of the invariant. -/
theorem blockInv_iff (s : State) : blockInv s = true ↔
    statusLegal s.status = true ∧ (s.status.busy = true → inProgressOk s = true) ∧ s.digest[5] &&& 0xFF = 0 := by
  simp [blockInv, and_assoc, ← Bool.not_eq_true, ← imp_iff_not_or]

/-- Settles O53: every engine step takes one from the steps left, until one completes the command. -/
theorem busyCommandCompletes : Obligations.BusyCommandCompletes := by
  intro s hinv hb hturns
  obtain ⟨-, hok, -⟩ := (blockInv_iff s).1 hinv
  exact run_completes _ s hb (hok hb) hturns (Nat.lt_succ_self _)

end Sys2Proof.Machine
end

section
/-! O52: the invariant (spec/10_state.md R30, R32, R38). The engine keeps it because a command in progress progresses; the host,
because its access while BUSY = 1 touches nothing the invariant reads, while idle only the acceptance of a command does, and
the checks of the acceptance are what the invariant says of a command in progress. -/

namespace Sys2Proof.Machine

/-! ### The engine -/

theorem digestResult_last (dw : Vector Word 6) : (digestResult dw)[5] &&& 0xFF = 0 := by
  have hmask : (0xFFFFFF00 : Word) &&& 0xFF = 0#32 := by decide
  simp only [digestResult, Vector.getElem_set_self, BitVec.and_assoc, hmask, BitVec.and_zero]
  rfl

/-- DIGEST is written by DIGEST's completion only, with the 24th byte 0. -/
theorem engineStep_digest (s : State) : (engineStep s).digest = s.digest ∨
    (s.status.busy = true ∧ s.seq.op = .digest ∧ (engineStep s).status.done = true ∧
      ∃ dw, (engineStep s).digest = digestResult dw) := by
  unfold engineStep
  split
  next hb =>
    cases hop : s.seq.op with
    | init => exact .inl rfl
    | expand => exact .inl (by rw [expandStep_scheduleFrame s])
    | eks => exact .inl (by rw [eksStep_scheduleFrame s])
    | encrypt => exact .inl rfl
    | digest =>
      obtain ⟨q, h⟩ | ⟨dw, q, h⟩ := digestStep_cases s
      · exact .inl (by rw [h])
      · exact .inr ⟨hb, rfl, by rw [h]; rfl, dw, by rw [h]; rfl⟩
  · exact .inl rfl

theorem engineStep_keeps_blockInv {s : State} (h : blockInv s = true) : blockInv (engineStep s) = true := by
  by_cases hb : s.status.busy = true
  · obtain ⟨hlegal, hok, hdigest⟩ := (blockInv_iff s).1 h
    obtain ⟨-, -, hlegal'⟩ := runningCommandNeverFails s hb hlegal
    refine (blockInv_iff _).2 ⟨hlegal', fun hbusy => ?_, ?_⟩
    · obtain hidle | ⟨hok', -⟩ := engineStep_progresses hb (hok hb)
      · simp [hidle] at hbusy
      · exact hok'
    · obtain heq | ⟨-, -, -, dw, heq⟩ := engineStep_digest s
      · rw [heq, hdigest]
      · simp only [heq, digestResult_last]
  · rwa [engineStep_idle (by simpa using hb)]

/-! ### The host -/

/-- The invariant reads none of the fields a busy host step may change. -/
theorem blockInv_hostEffect (p : List HostStmt) (r : List Word) (d : Nat) (o : Bool) (s : State) :
    blockInv (hostEffect p r d o s) = blockInv s := rfl

/-- Of an idle block the invariant reads DIGEST and the legality of STATUS only. -/
theorem blockInv_idle_iff {s : State} (hidle : Idle s) :
    blockInv s = true ↔ statusLegal s.status = true ∧ s.digest[5] &&& 0xFF = 0 := by
  simp [blockInv_iff, hidle]

theorem check_eq_noError_iff (i : Instr) (s : State) : check i s = .noError ↔
    (needsTables i = true → s.status.tv = true) ∧ costWrong i = false ∧ saltLengthWrong i s.saltLen = false := by
  unfold check
  split_ifs <;> simp_all

/-- The checks of a command are what the invariant says of it when it starts. -/
theorem inProgressOk_startOf {i : Instr} (hi : i ≠ .nop) {s : State} (w : Word) (h : check i s = .noError) :
    inProgressOk (startOf i (acceptWord w s)) = true := by
  obtain ⟨htv, hcost, hsalt⟩ := (check_eq_noError_iff i s).1 h
  cases i with
  | nop => exact absurd rfl hi
  | init => rfl
  | expand k z =>
    have hlen : (!readsSaltBuffer k z || decide (s.saltLen.toNat ≤ 16)) = true := by
      simpa [saltLengthWrong, imp_iff_not_or] using hsalt
    have htv : s.status.tv = true := htv rfl
    show (s.status.tv && positionOk (startExpansion k z _) && (!readsSaltBuffer k z || decide (s.saltLen.toNat ≤ 16))) = true
    rw [htv, positionOk_startExpansion, hlen]
    rfl
  | eks c => simp_all [inProgressOk, startOf, eksStageOk, costWrong, saltLengthWrong]
  | encrypt => exact htv rfl
  | digest => exact htv rfl

theorem statusLegal_errorStatus (st : Status) {c : ErrCode} (hc : c ≠ .noError) (hb : st.busy = false) :
    statusLegal { st with done := true, err := true, errCode := c } = true := by
  simp [statusLegal, hb, hc]

theorem acceptCommand_keeps_blockInv {w : Word} {s t : State} (hidle : Idle s) (h : blockInv s = true)
    (hstep : acceptCommand w s = .next t) : blockInv t = true := by
  obtain ⟨-, hdigest⟩ := (blockInv_idle_iff hidle).1 h
  obtain ⟨i, -, hexec⟩ | ⟨-, rfl⟩ := acceptCommand_cases hstep
  · obtain ⟨hpass, rfl⟩ | ⟨hfail, rfl⟩ := exec_idle_cases hidle hexec
    · by_cases hi : i = .nop
      · subst hi
        exact (blockInv_idle_iff rfl).2 ⟨rfl, hdigest⟩
      · refine (blockInv_iff _).2 ⟨by rw [startOf_status hi]; rfl, fun _ => inProgressOk_startOf hi _ hpass, ?_⟩
        cases i <;> exact hdigest
    · exact (blockInv_idle_iff (s := errorEnd i _ s) hidle).2 ⟨statusLegal_errorStatus _ hfail hidle, hdigest⟩
  · exact (blockInv_idle_iff (s := rejectIllegal w s) hidle).2
      ⟨statusLegal_errorStatus (c := .illegalCommand) _ nofun hidle, hdigest⟩

/-- An idle write to a register other than CMD leaves STATUS and DIGEST. -/
theorem writeReg_status_digest {r : Reg} (hr : r ≠ .cmd) {v : Word} {s t : State} (h : writeReg r v s = .next t) :
    t.status = s.status ∧ t.digest = s.digest := by
  cases r
  case cmd => exact absurd rfl hr
  all_goals
    cases h
    exact ⟨rfl, rfl⟩

theorem memWrite_keeps_blockInv {off : Nat} {v : Word} {s t : State} (hidle : Idle s) (h : blockInv s = true)
    (hstep : memWrite off v s = .next t) : blockInv t = true := by
  obtain ⟨-, rfl⟩ | ⟨-, hb, -⟩ | ⟨-, -, -, rfl⟩ | ⟨-, -, r, -, hw⟩ := memWrite_cases hstep
  · rw [writeStatus_eq_set_overrun]
    exact h
  · simp [hidle] at hb
  · exact h
  · by_cases hr : r = .cmd
    · subst hr
      exact acceptCommand_keeps_blockInv hidle h hw
    · obtain ⟨hst, hdigest⟩ := writeReg_status_digest hr hw
      rw [blockInv_idle_iff (by rw [Idle, hst]; exact hidle), hst]
      simpa only [hdigest] using (blockInv_idle_iff hidle).1 h

theorem hostStep_keeps_blockInv {s t : State} (h : blockInv s = true) (hstep : hostStep s = .next t) :
    blockInv t = true := by
  by_cases hb : s.status.busy = true
  · obtain ⟨p, r, d, o, rfl, -⟩ := hostStep_busy_effect (s' := s) hb rfl hstep
    rwa [blockInv_hostEffect]
  · have hidle : Idle s := by simpa using hb
    obtain ⟨-, rfl⟩ | ⟨off, v, rest, -, -, hw⟩ | ⟨off, rest, -, -, rfl⟩ | ⟨rest, -, rfl⟩ := hostStep_cases hstep
    · exact h
    · exact memWrite_keeps_blockInv (s := { s with program := rest }) hidle h hw
    · obtain hr | hr := memRead_state off { s with program := rest } <;> rw [hr] <;> exact h
    · rw [if_neg hb]
      exact h

/-- Settles O52: each agent keeps the invariant, and a reset establishes it. -/
theorem everyStepKeepsInvariant : Obligations.EveryStepKeepsInvariant := by
  intro s t h hstep
  have hafter : blockInv (afterTurn s) = true := h
  obtain ⟨-, hhost⟩ | ⟨-, rfl⟩ | ⟨-, rfl⟩ := step_cases hstep
  · exact hostStep_keeps_blockInv hafter hhost
  · exact engineStep_keeps_blockInv hafter
  · exact resetMeetsInvariant

end Sys2Proof.Machine
end

section
/-! O19, O20, O21, O22, O23, O24: the byte strings and their cyclic streams (spec/10_state.md R26 to R29; spec/42_key_schedule.md
R131, R135, R139, R141). Two words are equal when their four bytes are, and byte `k` of a stream word is one byte of the stream:
so each statement about an expansion is one about `streamByte`. -/

namespace Sys2Proof.Machine

/-! ### Words and their bytes -/

theorem word_eq_of_bytes {v w : Word} (h : ∀ k, k < 4 → byteOf k v = byteOf k w) : v = w := by
  apply BitVec.eq_of_getLsbD_eq
  intro i hi
  have hbyte := congrArg (BitVec.getLsbD · (i % 8)) (h (3 - i / 8) (by omega))
  simp only [byteOf, BitVec.getLsbD_extractLsb'] at hbyte
  have hpos : 24 - 8 * (3 - i / 8) + i % 8 = i := by omega
  simpa [hpos, Nat.mod_lt] using hbyte

/-- The last byte of a word into which a byte was shifted. -/
theorem byteOf_push_last (w : Word) (b : Byte) : byteOf 3 (w <<< 8 ||| b.setWidth 32) = b := by
  apply BitVec.eq_of_getLsbD_eq
  intro i hi
  have hword : i < 32 := by omega
  simp [byteOf, hi, hword]

/-- The bytes before the last are those of the word shifted, one place on. -/
theorem byteOf_push (w : Word) (b : Byte) {k : Nat} (hk : k < 3) :
    byteOf k (w <<< 8 ||| b.setWidth 32) = byteOf (k + 1) w := by
  apply BitVec.eq_of_getLsbD_eq
  intro i hi
  have hbyte : b.getLsbD (24 - 8 * k + i) = false := BitVec.getLsbD_of_ge b _ (by omega)
  have hword : 24 - 8 * k + i < 32 := by omega
  have hlow : ¬24 - 8 * k + i < 8 := by omega
  have hpos : 24 - 8 * k + i - 8 = 24 - 8 * (k + 1) + i := by omega
  have hword' : 24 - 8 * (k + 1) + i < 32 := by omega
  simp [byteOf, hi, hbyte, hword, hlow, hpos, BitVec.getLsbD_eq_getElem hword']

/-- R131: byte `k` of a stream word is byte `off + k` of the stream. -/
theorem byteOf_streamWord (b : List Byte) (off : Nat) {k : Nat} (hk : k < 4) :
    byteOf k (streamWord b off).1 = streamByte b (off + k) := by
  simp only [streamWord, List.foldl_cons, List.foldl_nil]
  obtain rfl | rfl | rfl | rfl : k = 0 ∨ k = 1 ∨ k = 2 ∨ k = 3 := by omega
  · rw [byteOf_push _ _ (by omega), byteOf_push _ _ (by omega), byteOf_push _ _ (by omega), byteOf_push_last]
  · rw [byteOf_push _ _ (by omega), byteOf_push _ _ (by omega), byteOf_push_last]
  · rw [byteOf_push _ _ (by omega), byteOf_push_last]
  · rw [byteOf_push_last]

/-- A stream word is a given word when its bytes are. -/
theorem streamWord_eq_iff (b : List Byte) (off : Nat) (w : Word) :
    (streamWord b off).1 = w ↔ ∀ k, k < 4 → streamByte b (off + k) = byteOf k w := by
  constructor
  · rintro rfl k hk
    exact (byteOf_streamWord b off hk).symm
  · exact fun h => word_eq_of_bytes fun k hk => by rw [byteOf_streamWord b off hk, h k hk]

theorem streamWord_empty (off : Nat) : (streamWord [] off).1 = 0 := by simp [streamWord]

/-- Settles O19: the bytes of a stream word are the cyclic stream's, and those of the empty string are 0. -/
theorem streamWordIsCyclicBigEndian : Obligations.StreamWordIsCyclicBigEndian := by
  refine ⟨fun b off k hk hb => ?_, streamWord_empty, fun b off => streamWord_offset b off⟩
  rw [byteOf_streamWord b off hk, streamByte_cyclic hb]

/-! ### The buffers -/

theorem length_flatMap_wordBytes (l : List Word) : (l.flatMap wordBytes).length = 4 * l.length := by
  simp [List.length_flatMap, wordBytes, Nat.mul_comm]

/-- Byte `4 i + k` of packed words is byte `k` of word `i`. -/
theorem getElem?_flatMap_wordBytes (l : List Word) (i : Nat) {k : Nat} (hk : k < 4) :
    (l.flatMap wordBytes)[4 * i + k]? = l[i]?.map (byteOf k) := by
  induction l generalizing i with
  | nil => rfl
  | cons w l ih =>
    rw [List.flatMap_cons]
    cases i with
    | zero =>
      rw [List.getElem?_append_left (by simp [wordBytes]; omega)]
      obtain rfl | rfl | rfl | rfl : k = 0 ∨ k = 1 ∨ k = 2 ∨ k = 3 := by omega
      all_goals rfl
    | succ i =>
      rw [List.getElem?_append_right (by simp [wordBytes]; omega), List.getElem?_cons_succ, ← ih i]
      congr 1
      simp only [wordBytes, List.length_cons, List.length_nil]
      omega

theorem saltBufferBytes_length (s : State) : (saltBufferBytes s).length = 16 := by
  rw [saltBufferBytes, length_flatMap_wordBytes, Vector.length_toList]

theorem keyBufferBytes_length (s : State) : (keyBufferBytes s).length = 72 := by
  rw [keyBufferBytes, length_flatMap_wordBytes, Vector.length_toList]

theorem saltBufferBytes_getElem? (s : State) (i : Fin 4) {k : Nat} (hk : k < 4) :
    (saltBufferBytes s)[4 * i.val + k]? = some (byteOf k s.salt[i]) := by
  simp [saltBufferBytes, getElem?_flatMap_wordBytes _ _ hk]

theorem keyBufferBytes_getElem? (s : State) (i : Fin 18) {k : Nat} (hk : k < 4) :
    (keyBufferBytes s)[4 * i.val + k]? = some (byteOf k s.key[i]) := by
  simp [keyBufferBytes, getElem?_flatMap_wordBytes _ _ hk]

/-- Settles O20: the buffers are the packed words of KEY and SALT. -/
theorem buffersArePackedBigEndian : Obligations.BuffersArePackedBigEndian :=
  fun s => ⟨keyBufferBytes_length s, saltBufferBytes_length s, fun i k => keyBufferBytes_getElem? s i k.isLt,
    fun i k => saltBufferBytes_getElem? s i k.isLt⟩

/-! ### Strings with equal streams expand equally -/

/-- An expansion reads 72 bytes of the key stream. -/
theorem expandTables_key_congr {b c : List Byte} (h : ∀ n, n < 72 → streamByte b n = streamByte c n) (salt : List Byte)
    (t : Tables) : expandTables b salt t = expandTables c salt t := by
  have hwords (i : Fin 18) : (streamWord b (4 * i.val)).1 = (streamWord c (4 * i.val)).1 :=
    congrArg Prod.fst (streamWord_congr fun k hk => h _ (by omega))
  rw [expandTables, expandTables, keyPhase_congr hwords]

theorem expandTables_salt_congr {b c : List Byte} (h : ∀ n, streamByte b n = streamByte c n) (key : List Byte)
    (t : Tables) : expandTables key b t = expandTables key c t := by
  have hwords : streamWord b = streamWord c := funext fun off => streamWord_congr fun k _ => h _
  have hpairs : encryptPair b = encryptPair c := by
    funext r n
    simp only [encryptPair, hwords]
  rw [expandTables, expandTables, encryptPhase, encryptPhase, hpairs]

theorem streamByte_of_getElem? {b : List Byte} (hb : b ≠ []) {n : Nat} {x : Byte} (h : b[n % b.length]? = some x) :
    streamByte b n = x := by
  rw [streamByte_cyclic hb] at h
  exact Option.some.inj h

theorem streamByte_replicate_zero (n off : Nat) : streamByte (List.replicate n 0) off = 0 := by
  unfold streamByte
  split
  · rfl
  · exact List.getElem_replicate _

/-- Settles O21: every byte of the stream of zero bytes is 0, as of the empty string. -/
theorem zeroMaterialIsEmptyMaterial : Obligations.ZeroMaterialIsEmptyMaterial := by
  have hstream (n off : Nat) : streamByte (List.replicate n 0) off = streamByte [] off := by
    rw [streamByte_replicate_zero, streamByte_empty]
  exact fun n b t => ⟨expandTables_key_congr (fun off _ => hstream n off) b t, expandTables_salt_congr (hstream n) b t⟩

theorem getElem?_copies (b : List Byte) (r : Nat) : ∀ n, n < r * b.length →
    (List.replicate r b).flatten[n]? = b[n % b.length]? := by
  induction r with
  | zero => exact fun n hn => by simp at hn
  | succ r ih =>
    intro n hn
    rw [Nat.succ_mul] at hn
    rw [List.replicate_succ, List.flatten_cons]
    by_cases hfirst : n < b.length
    · rw [List.getElem?_append_left hfirst, Nat.mod_eq_of_lt hfirst]
    · rw [List.getElem?_append_right (by omega), ih _ (by omega), ← Nat.mod_eq_sub_mod (by omega)]

/-- The stream of copies of a string is the string's. -/
theorem streamByte_copies {r : Nat} (hr : 0 < r) (b : List Byte) (off : Nat) :
    streamByte (List.replicate r b).flatten off = streamByte b off := by
  by_cases hb : b = []
  · simp [hb]
  · have hlen : (List.replicate r b).flatten.length = r * b.length := by simp
    have hpos : 0 < r * b.length := Nat.mul_pos hr (List.length_pos_of_ne_nil hb)
    have hne : (List.replicate r b).flatten ≠ [] := List.ne_nil_of_length_pos (hlen ▸ hpos)
    apply streamByte_of_getElem? hne
    rw [hlen, getElem?_copies b r _ (Nat.mod_lt _ hpos), Nat.mod_mul_left_mod, streamByte_cyclic hb]

/-- Settles O22: the copies have one stream. -/
theorem repeatedKeyExpandsAsOneCopy : Obligations.RepeatedKeyExpandsAsOneCopy :=
  fun _ b salt t hr => expandTables_key_congr (fun off _ => streamByte_copies hr b off) salt t

/-- The stream of a string of at least 72 bytes begins with them. -/
theorem streamByte_take {key : List Byte} (h : 72 ≤ key.length) {n : Nat} (hn : n < 72) :
    streamByte (key.take 72) n = streamByte key n := by
  have hlen : (key.take 72).length = 72 := by simp [h]
  have hne : key ≠ [] := List.ne_nil_of_length_pos (by omega)
  apply streamByte_of_getElem? (List.ne_nil_of_length_pos (by omega))
  rw [hlen, Nat.mod_eq_of_lt hn, List.getElem?_take_of_lt hn, ← streamByte_cyclic hne, Nat.mod_eq_of_lt (by omega)]

/-- Settles O23: an expansion reads the first 72 bytes of the key stream, and with KEYLEN at least 72 the key bytes are the whole
buffer. -/
theorem keyBytesPast72AreIgnored : Obligations.KeyBytesPast72AreIgnored := by
  have hcut (key salt : List Byte) (t : Tables) (h : 72 ≤ key.length) :
      expandTables key salt t = expandTables (key.take 72) salt t :=
    (expandTables_key_congr (fun n hn => streamByte_take h hn) salt t).symm
  refine ⟨hcut, fun s key salt t hlen hkey hbuffer => ?_⟩
  rw [hcut key salt t (by omega), hbuffer, keyBytes, Nat.min_eq_right hlen,
    List.take_of_length_le (by rw [keyBufferBytes_length])]

/-- Settles O24: with SALTLEN = 16 the salt bytes are the whole buffer, and offset `4 m` is word `m mod 4` of it. -/
theorem saltStreamHasPeriodFour : Obligations.SaltStreamHasPeriodFour := by
  intro s m hlen
  have hbytes : saltBytes s = saltBufferBytes s := by
    rw [saltBytes, hlen]
    exact List.take_of_length_le (by rw [saltBufferBytes_length]; decide)
  have hne : saltBufferBytes s ≠ [] := List.ne_nil_of_length_eq_add_one (saltBufferBytes_length s)
  rw [hbytes, streamWord_eq_iff]
  intro k hk
  have hpos : (4 * m + k) % 16 = 4 * (m % 4) + k := by omega
  apply streamByte_of_getElem? hne
  rw [saltBufferBytes_length, hpos]
  exact saltBufferBytes_getElem? s ⟨m % 4, Nat.mod_lt _ (by decide)⟩ hk

end Sys2Proof.Machine
end

section
/-! O25: what the encryption phase does to the first pair of subkeys (spec/42_key_schedule.md R136, R142). Pair 0 is stored first,
and no later pair is stored there. -/

namespace Sys2Proof.Machine

/-- The empty key changes no subkey (42_key_schedule.md R134). -/
theorem keyPhase_empty (t : Tables) : keyPhase [] t = t := by
  rw [keyPhase]
  exact List.foldl_fixed' (fun i => by rw [streamWord_empty, xorSubkey_zero]) _

/-- What one encryption of the phase stores. -/
theorem encryptPair_tables (salt : List Byte) (r : Running) (n : Fin 521) :
    (encryptPair salt r n).tables = storePair n (encryptBlock r.tables
      ⟨r.block.l ^^^ (streamWord salt r.so).1, r.block.r ^^^ (streamWord salt (r.so + 4)).1⟩) r.tables := rfl

/-- A pair other than the first leaves the first two subkeys. -/
theorem storePair_first {n : Fin 521} (hn : n.val ≠ 0) (b : Block) (t : Tables) {j : Nat} (hj : j < 2) :
    (storePair n b t).p[j] = t.p[j] := by
  by_cases hlow : n.val < 9
  · rw [storePair_low_p hlow b t (by omega), if_neg (by omega), if_neg (by omega)]
  · simp only [storePair_high_p hlow b t]

theorem pairsTo_first (salt : List Byte) (t : Tables) {j : Nat} (hj : j < 2) (k : Nat) (hk : k < 521) :
    (pairsTo salt (k + 1) t).tables.p[j] = (pairsTo salt 1 t).tables.p[j] := by
  induction k with
  | zero => simp only [Nat.zero_add]
  | succ k ih =>
    rw [← ih (by omega)]
    simp only [pairsTo_succ salt t hk, encryptPair_tables]
    exact storePair_first (Nat.succ_ne_zero k) _ _ hj

/-- Settles O25: the key phase leaves the tables, so pair 0 is `Enc(0, 0)` under them, and it stays. -/
theorem emptyExpansionStoresEncOfZeroFirst : Obligations.EmptyExpansionStoresEncOfZeroFirst := by
  intro t
  have hfirst : (pairsTo [] 1 t).tables = storePair 0 (encryptBlock t ⟨0, 0⟩) t := by
    have hzero : pairsTo [] 0 t = ⟨t, ⟨0, 0⟩, 0⟩ := rfl
    simp only [pairsTo_succ [] t (show 0 < 521 by decide), encryptPair_tables, streamWord_empty, hzero, BitVec.xor_self]
    rfl
  have hsubkey {j : Nat} (hj : j < 2) :
      (expandTables [] [] t).p[j] = (storePair 0 (encryptBlock t ⟨0, 0⟩) t).p[j] := by
    rw [← hfirst, ← pairsTo_first [] t hj 520 (by decide)]
    simp only [expandTables, keyPhase_empty, ← pairsTo_all]
  refine ⟨?_, ?_⟩
  · rw [hsubkey (by decide), storePair_low_p (by decide) _ _ (by decide)]
    rfl
  · rw [hsubkey (by decide), storePair_low_p (by decide) _ _ (by decide)]
    rfl

end Sys2Proof.Machine
end

section
/-! O29, O31, O32, O34, O35, O36, O39: the register map and the host's accesses (spec/20_memory.md R52 to R60;
spec/70_reset_and_hazards.md R251, R253). The map is one to one, so an access at an offset is an access to its register, and what
it does is what `readValue` and `writeReg` say of the register. -/

namespace Sys2Proof.Machine

/-! ### The register map -/

theorem regAt_s (k : Fin 4) (j : Fin 256) : regAt (0x2000 + 0x400 * k.val + 4 * j.val) = some (.s k j) := by
  have hk : (0x2000 + 0x400 * k.val + 4 * j.val - 0x2000) / 0x400 = k.val := by omega
  have hj : (0x2000 + 0x400 * k.val + 4 * j.val - 0x2000) % 0x400 / 4 = j.val := by omega
  unfold regAt
  rw [if_neg (by omega), if_neg (by omega), if_neg (by omega), if_neg (by omega), if_neg (by omega), if_neg (by omega),
    if_neg (by omega), dif_neg (by omega), dif_neg (by omega), dif_neg (by omega), dif_neg (by omega), dif_pos (by omega)]
  simp only [hk, hj]

theorem regAt_regOffset (r : Reg) : regAt (regOffset r) = some r := by
  cases r with
  | key i | p i =>
    revert i
    decide
  | salt i | digest i =>
    revert i
    decide
  | s k j => exact regAt_s k j
  | cmd | status | keyLen | saltLen | dataL | dataR => rfl

/-- Each test of the map that an aligned offset passes names the register it is the offset of. -/
theorem regAt_eq_none {off : Nat} (h : ∀ r, regOffset r ≠ off) : regAt off = none := by
  unfold regAt
  by_cases ha : off % 4 ≠ 0
  · rw [if_pos ha]
  · have hkey : ¬(0x0040 ≤ off ∧ off ≤ 0x0084) := fun _ =>
      h (.key ⟨(off - 0x0040) / 4, by omega⟩) (by simp only [regOffset]; omega)
    have hsalt : ¬(0x00C0 ≤ off ∧ off ≤ 0x00CC) := fun _ =>
      h (.salt ⟨(off - 0x00C0) / 4, by omega⟩) (by simp only [regOffset]; omega)
    have hdigest : ¬(0x0100 ≤ off ∧ off ≤ 0x0114) := fun _ =>
      h (.digest ⟨(off - 0x0100) / 4, by omega⟩) (by simp only [regOffset]; omega)
    have hp : ¬(0x1000 ≤ off ∧ off ≤ 0x1044) := fun _ =>
      h (.p ⟨(off - 0x1000) / 4, by omega⟩) (by simp only [regOffset]; omega)
    have hs : ¬(0x2000 ≤ off ∧ off ≤ 0x2FFC) := fun _ =>
      h (.s ⟨(off - 0x2000) / 0x400, by omega⟩ ⟨(off - 0x2000) % 0x400 / 4, by omega⟩) (by simp only [regOffset]; omega)
    have hcmd : off ≠ 0x0000 := Ne.symm (h .cmd)
    have hstatus : off ≠ 0x0004 := Ne.symm (h .status)
    have hkeyLen : off ≠ 0x0008 := Ne.symm (h .keyLen)
    have hsaltLen : off ≠ 0x000C := Ne.symm (h .saltLen)
    have hdataL : off ≠ 0x0010 := Ne.symm (h .dataL)
    have hdataR : off ≠ 0x0014 := Ne.symm (h .dataR)
    rw [if_neg ha, if_neg hcmd, if_neg hstatus, if_neg hkeyLen, if_neg hsaltLen, if_neg hdataL, if_neg hdataR,
      dif_neg hkey, dif_neg hsalt, dif_neg hdigest, dif_neg hp, dif_neg hs]

theorem regOffset_of_regAt {off : Nat} {r : Reg} (h : regAt off = some r) : regOffset r = off := by
  by_cases hreg : ∃ r', regOffset r' = off
  · obtain ⟨r', rfl⟩ := hreg
    rw [regAt_regOffset] at h
    rw [Option.some.inj h]
  · rw [regAt_eq_none (fun r' hr' => hreg ⟨r', hr'⟩)] at h
    cases h

theorem regOffset_aligned (r : Reg) : regOffset r % 4 = 0 ∧ regOffset r ≤ 0x3FFC := by
  cases r with
  | cmd | status | keyLen | saltLen | dataL | dataR => decide
  | key i | salt i | digest i | p i | s k j =>
    simp only [regOffset]
    omega

/-- Settles O29: the two directions of the map are inverse. -/
theorem registerMapIsOneToOne : Obligations.RegisterMapIsOneToOne :=
  ⟨fun r => ⟨regAt_regOffset r, regOffset_aligned r⟩, fun _ _ => regOffset_of_regAt⟩

/-! ### Accesses to registers -/

theorem memRead_value {r : Reg} {s : State} {v : Word} (h : readValue r s = some v) : memRead (regOffset r) s = (v, s) := by
  simp only [memRead, regAt_regOffset, h]

theorem memRead_draw {r : Reg} {s : State} (h : readValue r s = none) :
    memRead (regOffset r) s = (Config.draw s.draws, { s with draws := s.draws + 1 }) := by
  simp only [memRead, regAt_regOffset, h]
  rfl

theorem memWrite_reg {r : Reg} (hr : r ≠ .status) {s : State} (hidle : Idle s) (v : Word) :
    memWrite (regOffset r) v s = writeReg r v s := by
  have hoff : regOffset r ≠ 0x0004 := by
    intro h
    have hstatus := regAt_regOffset r
    rw [h] at hstatus
    cases hstatus
    exact hr rfl
  simp only [memWrite, if_neg hoff, hidle, regAt_regOffset]
  rfl

/-! ### Writes -/

theorem setWidth_extractLsb'_low (v : Word) (n : Nat) (hn : n ≤ 32) :
    (v.extractLsb' 0 n).setWidth 32 = v &&& BitVec.ofNat 32 (2 ^ n - 1) := by
  apply BitVec.eq_of_toNat_eq
  rw [BitVec.toNat_setWidth, BitVec.extractLsb'_toNat, BitVec.toNat_and, BitVec.toNat_ofNat]
  have hpow : 2 ^ n ≤ 2 ^ 32 := Nat.pow_le_pow_right (by decide) hn
  rw [Nat.mod_eq_of_lt (show 2 ^ n - 1 < 2 ^ 32 by omega), Nat.and_two_pow_sub_one_eq_mod, Nat.shiftRight_zero,
    Nat.mod_eq_of_lt (Nat.lt_of_lt_of_le (Nat.mod_lt _ (Nat.two_pow_pos n)) hpow)]

/-- Settles O31: each register is stored whole, but for the length registers' low bits, and read as it is stored. -/
theorem writtenRegisterReadsBack : Obligations.WrittenRegisterReadsBack := by
  intro s v hidle
  refine ⟨⟨_, memWrite_reg (r := .keyLen) nofun hidle v, ?keyLen, rfl⟩,
    ⟨_, memWrite_reg (r := .saltLen) nofun hidle v, ?saltLen, rfl⟩,
    ⟨_, memWrite_reg (r := .dataL) nofun hidle v, memRead_value (r := .dataL) (if_neg (by simp [hidle])), rfl⟩,
    ⟨_, memWrite_reg (r := .dataR) nofun hidle v, memRead_value (r := .dataR) (if_neg (by simp [hidle])), rfl⟩,
    fun i => ⟨_, memWrite_reg (r := .key i) nofun hidle v, memRead_value (r := .key i) (by simp [readValue]), rfl⟩,
    fun i => ⟨_, memWrite_reg (r := .salt i) nofun hidle v, memRead_value (r := .salt i) (by simp [readValue]), rfl⟩⟩
  case keyLen => exact (memRead_value (r := .keyLen) rfl).trans (by rw [setWidth_extractLsb'_low v 7 (by decide)]; rfl)
  case saltLen => exact (memRead_value (r := .saltLen) rfl).trans (by rw [setWidth_extractLsb'_low v 5 (by decide)]; rfl)

/-- Any accepted word, legal or not, is kept in CMD: a legal word is the encoding of its command. -/
theorem acceptCommand_cmd {w : Word} {s t : State} (hidle : Idle s) (h : acceptCommand w s = .next t) : t.cmd = w := by
  obtain ⟨i, hdecode, hexec⟩ | ⟨-, rfl⟩ := acceptCommand_cases h
  · rw [eq_encode_of_decode hdecode]
    obtain ⟨-, rfl⟩ | ⟨-, rfl⟩ := exec_idle_cases hidle hexec
    · cases i <;> rfl
    · rfl
  · rfl

/-- Settles O32: the write to CMD is acceptance, which keeps the word, and a read of CMD is its value. -/
theorem cmdReadsLastAcceptedWord : Obligations.CmdReadsLastAcceptedWord := by
  intro s w hidle
  obtain ⟨t, ht⟩ := acceptCommand_has_next w s
  refine ⟨t, by rw [memWrite_cmd hidle, ht], (memRead_value (r := .cmd) rfl).trans ?_⟩
  rw [acceptCommand_cmd hidle ht]

/-- D5's ranges hold no register. -/
theorem regAt_unmapped {off : Nat}
    (h : (0x0018 ≤ off ∧ off ≤ 0x003C) ∨ (0x0088 ≤ off ∧ off ≤ 0x00BC) ∨ (0x00D0 ≤ off ∧ off ≤ 0x00FC) ∨
      (0x0118 ≤ off ∧ off ≤ 0x0FFC) ∨ (0x1048 ≤ off ∧ off ≤ 0x1FFC) ∨ (0x3000 ≤ off ∧ off ≤ 0x3FFC)) :
    regAt off = none := by
  refine regAt_eq_none fun r hr => ?_
  cases r <;> simp only [regOffset] at hr <;> omega

/-- The offsets of the first clause of O34 that hold a register hold a read-only one. -/
theorem memWrite_ignored {s : State} {off : Nat} (v : Word) (hidle : Idle s)
    (h : (0x0018 ≤ off ∧ off ≤ 0x003C) ∨ (0x0088 ≤ off ∧ off ≤ 0x00BC) ∨ (0x00D0 ≤ off ∧ off ≤ 0x3FFC)) :
    memWrite off v s = .next s := by
  by_cases hreg : ∃ r, regOffset r = off
  · obtain ⟨r, rfl⟩ := hreg
    cases r with
    | digest i => exact memWrite_reg (r := .digest i) nofun hidle v
    | p i => exact memWrite_reg (r := .p i) nofun hidle v
    | s k j => exact memWrite_reg (r := .s k j) nofun hidle v
    | cmd | status | keyLen | saltLen | dataL | dataR | key i | salt i =>
      simp only [regOffset] at h
      omega
  · have hoff : off ≠ 0x0004 := by omega
    simp only [memWrite, if_neg hoff, hidle, regAt_eq_none (fun r hr => hreg ⟨r, hr⟩)]
    rfl

/-- Settles O34: no writable register stands at these offsets, and none at all at the unmapped ones. -/
theorem readOnlyAndUnmappedOffsets : Obligations.ReadOnlyAndUnmappedOffsets :=
  ⟨fun _ _ v hidle _ h => memWrite_ignored v hidle h, fun s off _ h => by simp only [memRead, regAt_unmapped h]⟩

/-! ### Reads -/

/-- Settles O35: `readValue` has no value for these registers in these states, and always one for the others. -/
theorem unspecifiedReadsAreDraws : Obligations.UnspecifiedReadsAreDraws := by
  refine ⟨fun s r hb hr => memRead_draw ?busy, fun s r hidle htv hr => memRead_draw ?invalid, fun s =>
    ⟨memRead_value (r := .cmd) rfl, memRead_value (r := .status) rfl, memRead_value (r := .keyLen) rfl,
      memRead_value (r := .saltLen) rfl, fun i => memRead_value (r := .key i) rfl,
      fun i => memRead_value (r := .salt i) rfl⟩⟩
  case busy => obtain rfl | rfl | ⟨i, rfl⟩ | ⟨i, rfl⟩ | ⟨k, j, rfl⟩ := hr <;> simp [readValue, hb]
  case invalid => obtain ⟨i, rfl⟩ | ⟨k, j, rfl⟩ := hr <;> simp [readValue, htv]

/-- Settles O36: while idle `readValue` has the registers' values, of DIGEST[5] without its last byte. -/
theorem idleReadsReturnResults : Obligations.IdleReadsReturnResults := by
  refine ⟨fun s hidle => ⟨memRead_value (r := .dataL) (by simp [readValue, hidle]),
    memRead_value (r := .dataR) (by simp [readValue, hidle]), fun i => ?digest,
    memRead_value (r := .digest 5) (by simp [readValue, hidle, digestWord])⟩,
    fun s hidle htv => ⟨fun i => memRead_value (r := .p i) (by simp [readValue, hidle, htv]),
      fun k j => memRead_value (r := .s k j) (by simp [readValue, hidle, htv])⟩⟩
  case digest =>
    have hi : i.castSucc ≠ 5 := (Fin.castSucc_lt_last i).ne
    exact memRead_value (r := .digest i.castSucc) (by simp [readValue, hidle, digestWord, hi])

/-- Settles O39: an aligned read in the window is not refused, and `memRead` changes the draw count at most. -/
theorem readsHaveNoSideEffect : Obligations.ReadsHaveNoSideEffect := by
  intro s off rest hturn hp ha hbound
  have hok : accessRefusal .w32 off = none := by
    by_contra hbad
    obtain h | h | h := (accessRefusal_ne_none_iff _ _).1 hbad
    · exact h rfl
    · exact h ha
    · omega
  have hstep : step s = .next { (memRead off { afterTurn s with program := rest }).2 with
      received := (memRead off { afterTurn s with program := rest }).1 ::
        (memRead off { afterTurn s with program := rest }).2.received } := by
    rw [step_eq_takeTurn, hturn, takeTurn, hostStep, afterTurn_program, hp]
    simp only [hostStatement, hok]
  rw [hstep]
  obtain hr | hr := memRead_state off { afterTurn s with program := rest }
  · exact ⟨_, s.draws, .inl rfl, by rw [hr]; rfl⟩
  · exact ⟨_, s.draws + 1, .inr rfl, by rw [hr]; rfl⟩

end Sys2Proof.Machine
end

section
/-! O16: the code an accepted word is answered with (spec/60_exceptions.md R200, R210). A legal word is answered with the code of
its check, whose order is R210's. -/

namespace Sys2Proof.Machine

theorem acceptCommand_errCode {w : Word} {s t : State} (hidle : Idle s) (h : acceptCommand w s = .next t) :
    (∃ i, decode w = .command i ∧ t.status.errCode = check i s) ∨
      (decode w = .illegal ∧ t.status.errCode = .illegalCommand) := by
  obtain ⟨i, hdecode, hexec⟩ | ⟨hillegal, rfl⟩ := acceptCommand_cases h
  · exact .inl ⟨i, hdecode, exec_idle_errCode hidle hexec⟩
  · exact .inr ⟨hillegal, rfl⟩

theorem acceptCommand_err {w : Word} {s t : State} (hidle : Idle s) (h : acceptCommand w s = .next t) :
    t.status.err = decide (t.status.errCode ≠ .noError) := by
  obtain ⟨i, -, hexec⟩ | ⟨-, rfl⟩ := acceptCommand_cases h
  · obtain ⟨-, rfl⟩ | ⟨hfail, rfl⟩ := exec_idle_cases hidle hexec
    · obtain ⟨herr, hcode⟩ := startOf_acceptWord_noError i (encode i) s
      rw [herr, hcode]
      rfl
    · exact (decide_eq_true hfail).symm
  · rfl

theorem check_expand_eq (k : KeySrc) (z : SaltSrc) (s : State) : check (.expand k z) s =
    if s.status.tv = false then .tablesNotValid
    else if (k = .saltBuffer ∨ z = .saltBuffer) ∧ 16 < s.saltLen.toNat then .invalidSaltLength else .noError := by
  simp [check, needsTables, costWrong, saltLengthWrong, readsSaltBuffer]

theorem check_eks_eq (c : BitVec 5) (s : State) : check (.eks c) s =
    if c.toNat < 4 then .invalidCost else if s.saltLen ≠ 16 then .invalidSaltLength else .noError := by
  simp [check, needsTables, costWrong, saltLengthWrong]

theorem check_tables_only_eq {i : Instr} (hi : i = .encrypt ∨ i = .digest) (s : State) :
    check i s = if s.status.tv = false then .tablesNotValid else .noError := by
  obtain rfl | rfl := hi <;> simp [check, needsTables, costWrong, saltLengthWrong]

/-- Settles O16: the word is accepted, and its code is the check's of the command it decodes to. -/
theorem checksAreMadeInOrder : Obligations.ChecksAreMadeInOrder := by
  intro w s hidle
  obtain ⟨t, ht⟩ := acceptCommand_has_next w s
  have hcode {i : Instr} (hi : decode w = .command i) : t.status.errCode = check i s := by
    obtain ⟨j, hj, hcode⟩ | ⟨hillegal, -⟩ := acceptCommand_errCode hidle ht
    · rw [hi] at hj
      cases hj
      exact hcode
    · simp [hi] at hillegal
  refine ⟨t, by rw [memWrite_cmd hidle, ht], acceptCommand_cmd hidle ht, acceptCommand_err hidle ht, fun hillegal => ?illegal,
    fun hi => ?none, fun k z hi => by rw [hcode hi, check_expand_eq], fun c hi => by rw [hcode hi, check_eks_eq],
    fun hi => ?tables⟩
  case illegal =>
    obtain ⟨j, hj, -⟩ | ⟨-, hcode⟩ := acceptCommand_errCode hidle ht
    · simp [hillegal] at hj
    · exact hcode
  case none => obtain hi | hi := hi <;> rw [hcode hi] <;> rfl
  case tables =>
    obtain hi | hi := hi
    · rw [hcode hi, check_tables_only_eq (.inl rfl)]
    · rw [hcode hi, check_tables_only_eq (.inr rfl)]

end Sys2Proof.Machine
end

section
/-! O40, O41, O42, O43, O44, O46: which steps change which fields (spec/10_state.md R21 to R37; spec/20_memory.md R56, R65). The host
accepts a word at CMD, which changes CMD, STATUS and the sequencer, or changes nothing but its own fields, OVERRUN and the
registers it may write. The engine writes by the command in progress. -/

namespace Sys2Proof.Machine

/-! ### The host -/

/-- What the acceptance of a word leaves unchanged. -/
theorem acceptCommand_frame {w : Word} {s t : State} (hidle : Idle s) (h : acceptCommand w s = .next t) :
    t = { s with cmd := t.cmd, status := { t.status with tv := s.status.tv }, seq := t.seq } := by
  obtain ⟨i, -, hexec⟩ | ⟨-, rfl⟩ := acceptCommand_cases h
  · obtain ⟨-, rfl⟩ | ⟨-, rfl⟩ := exec_idle_cases hidle hexec
    · cases i <;> rfl
    · rfl
  · rfl

/-- `t` is `s` but for the host's own fields, OVERRUN and the registers the host may write. -/
def HostFrame (s t : State) : Prop :=
  t = { s with status := { s.status with overrun := t.status.overrun }, dataL := t.dataL, dataR := t.dataR, key := t.key,
               keyLen := t.keyLen, salt := t.salt, saltLen := t.saltLen, program := t.program, received := t.received,
               draws := t.draws }

theorem writeReg_hostFrame {r : Reg} (hr : r ≠ .cmd) {v : Word} {s t : State} (h : writeReg r v s = .next t) :
    HostFrame s t := by
  cases r
  case cmd => exact absurd rfl hr
  all_goals
    cases h
    rfl

/-- Everything a host step can do to the block: the acceptance of a word, or nothing outside `HostFrame`. -/
theorem hostStep_block_cases {s t : State} (h : hostStep s = .next t) :
    (Idle s ∧ ∃ w rest, s.program = .wr 0x0000 .w32 w :: rest ∧ acceptCommand w { s with program := rest } = .next t) ∨
      HostFrame s t := by
  obtain ⟨-, rfl⟩ | ⟨off, v, rest, hp, -, hw⟩ | ⟨off, rest, -, -, rfl⟩ | ⟨rest, -, rfl⟩ := hostStep_cases h
  · exact .inr rfl
  · obtain ⟨-, rfl⟩ | ⟨-, -, rfl⟩ | ⟨-, -, -, rfl⟩ | ⟨-, hidle, r, hr, hreg⟩ := memWrite_cases hw
    · rw [writeStatus_eq_set_overrun]
      exact .inr rfl
    · exact .inr rfl
    · exact .inr rfl
    · by_cases hcmd : r = .cmd
      · subst hcmd
        obtain rfl : 0x0000 = off := regOffset_of_regAt hr
        exact .inl ⟨hidle, v, rest, hp, hreg⟩
      · have hframe : HostFrame { s with program := rest } t := writeReg_hostFrame hcmd hreg
        rw [HostFrame] at hframe
        rw [hframe]
        exact .inr rfl
  · obtain hr | hr := memRead_state off { s with program := rest } <;> rw [hr] <;> exact .inr rfl
  · split <;> exact .inr rfl

/-- Settles O46: an acceptance keeps P, S, TV and DIGEST, and any other access everything but the host's registers. -/
theorem hostWritesNoResult : Obligations.HostWritesNoResult := by
  intro s t hturn hstep
  rw [step_eq_takeTurn, hturn] at hstep
  obtain ⟨hidle, w, rest, hp, haccept⟩ | hframe := hostStep_block_cases (s := afterTurn s) hstep
  · have hframe := acceptCommand_frame (s := { afterTurn s with program := rest }) hidle haccept
    exact ⟨by rw [hframe]; rfl, by rw [hframe]; rfl, by rw [hframe]; rfl, fun hno => absurd hp (hno w rest)⟩
  · rw [HostFrame] at hframe
    rw [hframe]
    exact ⟨rfl, rfl, rfl, fun _ => ⟨rfl, rfl, rfl, rfl, rfl, rfl⟩⟩

end Sys2Proof.Machine
end

section
/-! O40, O41, O42, O43, O44: TV, the tables, the results, the inputs and BUSY change only by the steps the spec names
(spec/10_state.md R21 to R36; spec/20_memory.md R65). -/

namespace Sys2Proof.Machine

/-! ### The fields an engine step writes -/

/-- The tables are written by INIT, EXPAND and EKS only. -/
theorem engineStep_tables (s : State) : (engineStep s).tables = s.tables ∨
    (s.status.busy = true ∧ (s.seq.op = .init ∨ s.seq.op = .expand ∨ s.seq.op = .eks)) := by
  unfold engineStep
  split
  next hb =>
    cases hop : s.seq.op with
    | init | expand | eks => simp [hb]
    | encrypt => exact .inl rfl
    | digest => obtain ⟨q, h⟩ | ⟨dw, q, h⟩ := digestStep_cases s <;> simp [h]
  · exact .inl rfl

/-- DATA is written by ENCRYPT's completion only. -/
theorem engineStep_data (s : State) : ((engineStep s).dataL = s.dataL ∧ (engineStep s).dataR = s.dataR) ∨
    (s.status.busy = true ∧ s.seq.op = .encrypt ∧ (engineStep s).status.done = true) := by
  unfold engineStep
  split
  next hb =>
    cases hop : s.seq.op with
    | init => exact .inl ⟨rfl, rfl⟩
    | expand => exact .inl (by rw [expandStep_scheduleFrame s]; exact ⟨rfl, rfl⟩)
    | eks => exact .inl (by rw [eksStep_scheduleFrame s]; exact ⟨rfl, rfl⟩)
    | encrypt => exact .inr ⟨hb, rfl, rfl⟩
    | digest => obtain ⟨q, h⟩ | ⟨dw, q, h⟩ := digestStep_cases s <;> simp [h]
  · exact .inl ⟨rfl, rfl⟩

/-! ### The obligations on TV, P and S -/

/-- A host step keeps what no host access writes. -/
theorem hostTurn_keeps {s t : State} (hturn : turnOf s = .host) (hstep : step s = .next t) :
    t.tables = s.tables ∧ t.status.tv = s.status.tv ∧ t.digest = s.digest := by
  obtain ⟨htables, htv, hdigest, -⟩ := hostWritesNoResult s t hturn hstep
  exact ⟨htables, htv, hdigest⟩

/-- Settles O40: a host step keeps TV; an engine step changes it only by completing INIT or EKS; a reset clears it. -/
theorem tablesValidChangesOnlyBy : Obligations.TablesValidChangesOnlyBy := by
  intro s t hstep hne
  obtain ⟨hturn, -⟩ | ⟨hturn, rfl⟩ | ⟨hturn, rfl⟩ := step_cases hstep
  · obtain ⟨-, htv, -⟩ := hostTurn_keeps hturn hstep
    exact absurd htv hne
  · obtain hst | ⟨hb, hst⟩ := engineStep_status_cases (afterTurn s)
    · exact absurd (congrArg Status.tv hst) hne
    · by_cases hop : s.seq.op = .init ∨ s.seq.op = .eks
      · have hsets : decide ((afterTurn s).seq.op = .init ∨ (afterTurn s).seq.op = .eks) = true := decide_eq_true hop
        rw [hsets] at hst
        rw [hst]
        exact .inr ⟨hturn, hb, hop, rfl, rfl, rfl⟩
      · have hkeeps : decide ((afterTurn s).seq.op = .init ∨ (afterTurn s).seq.op = .eks) = false := decide_eq_false hop
        rw [hkeeps] at hst
        rw [hst] at hne
        exact absurd rfl hne
  · exact .inl ⟨hturn, rfl⟩

/-- Settles O41: a host step keeps the tables, and of the engine's steps those of INIT, EXPAND and EKS write them. -/
theorem tablesAreWrittenOnlyBy : Obligations.TablesAreWrittenOnlyBy := by
  intro s t hstep hne
  obtain ⟨hturn, -⟩ | ⟨hturn, rfl⟩ | ⟨hturn, -⟩ := step_cases hstep
  · obtain ⟨htables, -⟩ := hostTurn_keeps hturn hstep
    exact absurd htables hne
  · obtain heq | hwriter := engineStep_tables (afterTurn s)
    · exact absurd heq hne
    · exact .inr ⟨hturn, hwriter⟩
  · exact .inl hturn

/-! ### The results -/

/-- A field `f` that is the register `r` to the host: a write to `r` stores its value there, no other write changes it, and it is
none of the fields that acceptance, a dropped write or a read changes. -/
structure HostRegister (r : Reg) (f : State → Word) : Prop where
  notCmd : r ≠ .cmd
  stored : ∀ v s t, writeReg r v s = .next t → f t = v
  others : ∀ r' v s t, r' ≠ r → r' ≠ .cmd → writeReg r' v s = .next t → f t = f s
  frame : ∀ s cmd status seq program received draws, f { s with
    cmd := cmd, status := status, seq := seq, program := program, received := received, draws := draws } = f s

theorem hostRegister_dataL : HostRegister .dataL State.dataL := by
  refine ⟨nofun, fun v s t h => by cases h; rfl, fun r' v s t hr hcmd h => ?_, fun _ _ _ _ _ _ _ => rfl⟩
  cases r'
  case cmd => exact absurd rfl hcmd
  case dataL => exact absurd rfl hr
  all_goals
    cases h
    rfl

theorem hostRegister_dataR : HostRegister .dataR State.dataR := by
  refine ⟨nofun, fun v s t h => by cases h; rfl, fun r' v s t hr hcmd h => ?_, fun _ _ _ _ _ _ _ => rfl⟩
  cases r'
  case cmd => exact absurd rfl hcmd
  case dataR => exact absurd rfl hr
  all_goals
    cases h
    rfl

/-- A host step changes such a field only by an idle write of the value the field then holds. -/
theorem hostStep_changes_register {r : Reg} {f : State → Word} (hf : HostRegister r f) {s t : State}
    (h : hostStep s = .next t) (hne : f t ≠ f s) :
    Idle s ∧ ∃ rest, s.program = .wr (regOffset r) .w32 (f t) :: rest := by
  obtain ⟨-, rfl⟩ | ⟨off, v, rest, hp, -, hw⟩ | ⟨off, rest, -, -, rfl⟩ | ⟨rest, -, rfl⟩ := hostStep_cases h
  · exact absurd rfl hne
  · obtain ⟨-, rfl⟩ | ⟨-, -, rfl⟩ | ⟨-, -, -, rfl⟩ | ⟨-, hidle, r', hr', hreg⟩ := memWrite_cases hw
    · rw [writeStatus_eq_set_overrun] at hne
      exact absurd (hf.frame s _ _ _ _ _ _) hne
    · exact absurd (hf.frame s _ _ _ _ _ _) hne
    · exact absurd (hf.frame s _ _ _ _ _ _) hne
    · have hprog : f { s with program := rest } = f s := hf.frame s _ _ _ _ _ _
      by_cases hcmd : r' = .cmd
      · subst hcmd
        rw [acceptCommand_frame (s := { s with program := rest }) hidle hreg] at hne
        exact absurd (hf.frame s _ _ _ _ _ _) hne
      · by_cases hr : r' = r
        · subst hr
          rw [hf.stored v _ t hreg, regOffset_of_regAt hr']
          exact ⟨hidle, rest, hp⟩
        · exact absurd ((hf.others r' v _ t hr hcmd hreg).trans hprog) hne
  · obtain hr | hr := memRead_state off { s with program := rest } <;> rw [hr] at hne
    · exact absurd (hf.frame s _ _ _ _ _ _) hne
    · exact absurd (hf.frame s _ _ _ _ _ _) hne
  · split at hne
    · exact absurd rfl hne
    · exact absurd (hf.frame s _ _ _ _ _ _) hne

/-- Settles O42: by the agent that moves; the host writes DATA only as a register, and the engine by ENCRYPT or DIGEST. -/
theorem resultsAreWrittenOnlyBy : Obligations.ResultsAreWrittenOnlyBy := by
  intro s t hstep
  obtain ⟨hturn, hhost⟩ | ⟨hturn, rfl⟩ | ⟨hturn, -⟩ := step_cases hstep
  · obtain ⟨-, -, hdigest⟩ := hostTurn_keeps hturn hstep
    exact ⟨fun hne => .inr (.inr ⟨hturn, hostStep_changes_register (s := afterTurn s) hostRegister_dataL hhost hne⟩),
      fun hne => .inr (.inr ⟨hturn, hostStep_changes_register (s := afterTurn s) hostRegister_dataR hhost hne⟩),
      fun hne => absurd hdigest hne⟩
  · have hdata := engineStep_data (afterTurn s)
    refine ⟨fun hne => .inr (.inl ⟨hturn, hdata.resolve_left fun heq => hne heq.1⟩),
      fun hne => .inr (.inl ⟨hturn, hdata.resolve_left fun heq => hne heq.2⟩),
      fun hne => ?_⟩
    obtain heq | ⟨hb, hop, hdone, -⟩ := engineStep_digest (afterTurn s)
    · exact absurd heq hne
    · exact .inr ⟨hturn, hb, hop, hdone⟩
  · exact ⟨fun _ => .inl hturn, fun _ => .inl hturn, fun _ => .inl hturn⟩

/-! ### The inputs, BUSY -/

/-- Settles O43: a busy host step has only `hostEffect`, and no engine step writes an input. -/
theorem inputsAreStableWhileBusy : Obligations.InputsAreStableWhileBusy := by
  intro s t hb hturn hstep
  obtain ⟨-, hhost⟩ | ⟨-, rfl⟩ | ⟨hreset, -⟩ := step_cases hstep
  · obtain ⟨p, r, d, o, rfl, -⟩ := hostStep_busy_effect (s := afterTurn s) (s' := afterTurn s) hb rfl hhost
    exact ⟨rfl, rfl, rfl, rfl, rfl⟩
  · rw [engineStep_frame (afterTurn s)]
    exact ⟨rfl, rfl, rfl, rfl, rfl⟩
  · exact absurd hreset hturn

/-- An acceptance sets BUSY only for a legal word of a command other than NOP. -/
theorem acceptCommand_sets_busy {w : Word} {s t : State} (hidle : Idle s) (h : acceptCommand w s = .next t)
    (hb : t.status.busy = true) : ∃ i, decode w = .command i ∧ i ≠ .nop := by
  obtain ⟨i, hdecode, hexec⟩ | ⟨-, rfl⟩ := acceptCommand_cases h
  · refine ⟨i, hdecode, ?_⟩
    rintro rfl
    obtain ⟨-, rfl⟩ | ⟨-, rfl⟩ := exec_idle_cases hidle hexec
    · cases hb
    · exact absurd (hidle.symm.trans hb) (by decide)
  · exact absurd (hidle.symm.trans hb) (by decide)

/-- Settles O44: the engine clears BUSY by a completion and never sets it; the host sets it by an acceptance and never clears
it. -/
theorem busyChangesOnlyBy : Obligations.BusyChangesOnlyBy := by
  intro s t hstep
  obtain ⟨hturn, hhost⟩ | ⟨hturn, rfl⟩ | ⟨hturn, rfl⟩ := step_cases hstep
  · refine ⟨fun hb hclear => ?clears, fun hidle hset => ?sets⟩
    case clears =>
      obtain ⟨p, r, d, o, rfl, -⟩ := hostStep_busy_effect (s := afterTurn s) (s' := afterTurn s) hb rfl hhost
      exact absurd (hb.symm.trans hclear) (by decide)
    case sets =>
      obtain ⟨-, w, rest, hp, haccept⟩ | hframe := hostStep_block_cases hhost
      · obtain ⟨i, hdecode, hi⟩ := acceptCommand_sets_busy (s := { afterTurn s with program := rest }) hidle haccept hset
        exact ⟨hturn, w, rest, i, hp, hdecode, hi,
          acceptCommand_cmd (s := { afterTurn s with program := rest }) hidle haccept⟩
      · rw [HostFrame] at hframe
        rw [hframe] at hset
        exact absurd (hidle.symm.trans hset) (by decide)
  · refine ⟨fun hb hclear => .inr ⟨hturn, (engineStep_completed (s := afterTurn s) hb hclear).1⟩, fun hidle hset => ?_⟩
    rw [engineStep_idle (s := afterTurn s) hidle] at hset
    exact absurd (hidle.symm.trans hset) (by decide)
  · exact ⟨fun _ _ => .inl hturn, fun _ hset => by cases hset⟩

end Sys2Proof.Machine
end

section
/-! O49: the disciplined host (spec/70_reset_and_hazards.md R243, R252). Its accesses are never refused; a poll of STATUS and a read
of a register with a value draw nothing; and it writes nothing but STATUS while BUSY = 1, so no write is dropped. -/

namespace Sys2Proof.Machine

/-- What O49 asks of a step: no draw, and OVERRUN not set. -/
def LosesNothing (s t : State) : Prop := t.draws = s.draws ∧ (t.status.overrun = true → s.status.overrun = true)

/-- A register below the tables has a value while idle, and with TV = 1 every register has one. -/
theorem readValue_idle {r : Reg} {s : State} (hidle : Idle s) (h : s.status.tv = true ∨ regOffset r < 0x1000) :
    ∃ v, readValue r s = some v := by
  cases r with
  | p i =>
    have htv : s.status.tv = true := h.resolve_right (by simp only [regOffset]; omega)
    simp [readValue, hidle, htv]
  | s k j =>
    have htv : s.status.tv = true := h.resolve_right (by simp only [regOffset]; omega)
    simp [readValue, hidle, htv]
  | cmd | status | keyLen | saltLen | dataL | dataR | key i | salt i | digest i => simp [readValue, hidle]

/-- A disciplined read takes no draw. -/
theorem memRead_disciplined {s : State} {off : Nat}
    (h : (if s.status.busy then off == 0x0004 else s.status.tv || decide (off < 0x1000)) = true) :
    ∃ v, memRead off s = (v, s) := by
  by_cases hb : s.status.busy = true
  · rw [if_pos hb, beq_iff_eq] at h
    subst h
    exact ⟨_, memRead_value (r := .status) rfl⟩
  · simp only [if_neg hb, Bool.or_eq_true, decide_eq_true_eq] at h
    cases hr : regAt off with
    | none => exact ⟨0, by simp only [memRead, hr]⟩
    | some r =>
      obtain rfl := regOffset_of_regAt hr
      obtain ⟨v, hv⟩ := readValue_idle (by simpa using hb) h
      exact ⟨v, memRead_value hv⟩

theorem memWrite_draws {off : Nat} {v : Word} {s t : State} (h : memWrite off v s = .next t) : t.draws = s.draws := by
  obtain ⟨-, rfl⟩ | ⟨-, -, rfl⟩ | ⟨-, -, -, rfl⟩ | ⟨-, hidle, r, -, hreg⟩ := memWrite_cases h
  · rw [writeStatus_eq_set_overrun]
  · rfl
  · rfl
  · by_cases hcmd : r = .cmd
    · subst hcmd
      rw [acceptCommand_frame hidle hreg]
    · cases r
      case cmd => exact absurd rfl hcmd
      all_goals
        cases hreg
        rfl

/-- A write while idle, or to STATUS, does not set OVERRUN. -/
theorem memWrite_disciplined {off : Nat} {v : Word} {s t : State} (hok : s.status.busy = true → off = 0x0004)
    (h : memWrite off v s = .next t) : LosesNothing s t := by
  refine ⟨memWrite_draws h, fun hover => ?_⟩
  rw [memWrite_overrun h] at hover
  split at hover
  · split at hover
    · cases hover
    · exact hover
  next hoff =>
    have hb : s.status.busy = false := by simpa using fun hb => hoff (hok hb)
    simpa [hb] using hover

theorem hostStep_disciplined {s : State} (h : disciplined s = true) : ∃ t, hostStep s = .next t ∧ LosesNothing s t := by
  unfold disciplined at h
  cases hp : s.program with
  | nil => exact ⟨s, by rw [hostStep, hp], rfl, id⟩
  | cons st rest =>
    rw [hostStep, hp]
    rw [hp] at h
    cases st with
    | wait =>
      simp only [hostStatement]
      split
      · exact ⟨s, rfl, rfl, id⟩
      · exact ⟨_, rfl, rfl, id⟩
    | wr off width v =>
      simp only [Bool.and_eq_true, decide_eq_true_eq, Bool.or_eq_true, Bool.not_eq_true', beq_iff_eq] at h
      obtain ⟨hok, hbusy⟩ := h
      obtain ⟨t, ht⟩ := memWrite_has_next off v { s with program := rest }
      refine ⟨t, by simp only [hostStatement, hok, ht],
        memWrite_disciplined (s := { s with program := rest }) (fun hb => ?_) ht⟩
      exact hbusy.resolve_left (by simpa using hb)
    | rd off width =>
      simp only [Bool.and_eq_true, decide_eq_true_eq] at h
      obtain ⟨hok, hread⟩ := h
      obtain ⟨v, hmem⟩ := memRead_disciplined (s := { s with program := rest }) hread
      simp only [hostStatement, hok, hmem]
      exact ⟨_, rfl, rfl, id⟩

/-- Settles O49: the engine and a reset draw nothing and do not set OVERRUN; the host's step is a disciplined one. -/
theorem disciplinedHostLosesNothing : Obligations.DisciplinedHostLosesNothing := by
  intro s h
  rw [step_eq_takeTurn]
  cases turnOf s with
  | host => exact hostStep_disciplined (s := afterTurn s) h
  | engine =>
    refine ⟨_, rfl, ?_, fun hover => ?_⟩
    · rw [engineStep_frame (afterTurn s)]
      rfl
    · rwa [engineStep_overrun] at hover
  | reset => exact ⟨_, rfl, rfl, nofun⟩

end Sys2Proof.Machine
end
